-- ==== Sys2Proof/Word.lean ====
section
/-! DEFINITION. The plain words of the Sensor Protocol Engine: bytes, pins, frames, and the widths they have. -/

namespace Sys2Proof

/-- A byte: an unsigned number of eight bits, bit 0 the least significant (00_scope.md R6). -/
abbrev Byte := BitVec 8

/-- The rows of 00_scope.md R5 that size a frame and a reading. Other rules of the spec fix them: frames and their
buffers of exactly nine bytes (30_encoding.md R70; 10_state.md R26, R27), five data bytes (30_encoding.md R71,
40_codec.md R102), a reading of sixteen bits (10_state.md R30). So the types below are made from `Widths.stated`. -/
structure Widths where
  /-- `FRAME_LEN`: bytes in a command frame and in a response frame. -/
  frameLen : Nat
  /-- `N_DATA`: command-specific data bytes in a command frame. -/
  nData : Nat
  /-- `READING_W`: bits of the reading register. -/
  readingW : Nat
deriving DecidableEq, Repr

/-- The widths the spec states (00_scope.md R5). -/
abbrev Widths.stated : Widths where
  frameLen := 9
  nData := 5
  readingW := 16

/-- A pin identifier: a number that fits the `PIN_W` bits of the machine's configuration (`Config.pinW`). Every such
value is legal, equal pins included, and no rule computes with one (10_state.md R23; notes/assumptions/21.md). -/
abbrev Pin := Nat

/-- `FRAME_LEN`, the bytes of a frame in either direction (00_scope.md R5, 30_encoding.md R70). -/
abbrev frameLen : Nat := Widths.stated.frameLen

/-- A frame `f[0..8]`: nine bytes, `f[0]` first on the wire (00_scope.md R7, 20_memory.md R51). -/
abbrev Frame := Vector Byte frameLen

/-- `READING_W`, the bits of the reading register (00_scope.md R5, 10_state.md R30). -/
abbrev readingW : Nat := Widths.stated.readingW

/-- A CO2 concentration in ppm, unsigned (10_state.md R30). -/
abbrev Ppm := BitVec readingW

end Sys2Proof
end

