-- ==== Sys2Proof/Syntax.lean ====
section
/-! DEFINITION. The instructions (one constructor per row of spec/opcode_table.json), the moves of the three
agents, and the notation of HOST programs and ENV scripts (30_encoding.md R84 to R86). -/

namespace Sys2Proof

/-- The rows of spec/opcode_table.json: the host operation words of format HOP (30_encoding.md R79, R80) and the
two wire frames of formats CF and RF (R74, R75). -/
inductive Instr where
  /-- `INIT <rx>, <tx>`: `op` = 0 with its two pin operands (41_host_operations.md R121). -/
  | init (rx tx : Pin)
  /-- `FLUSH`: `op` = 1 (R122). -/
  | flush
  /-- `READCO2`: `op` = 2 (R123). -/
  | readCo2
  /-- The reserved operation code `op` = 3 (30_encoding.md R80, 41_host_operations.md R129). -/
  | reservedOp3
  /-- CF.READ_CO2: the one command frame the ENGINE sends; every bit is fixed (R74). -/
  | cfReadCo2
  /-- RF.READ_CO2: a response frame; bytes 0 and 1 are fixed, bytes 2 to 8 are its fields (R72, R75). -/
  | rfReadCo2 (high low x4 x5 x6 x7 chk : Byte)
deriving DecidableEq, Repr, Inhabited

/-- ENV's answers at the transport port during one turn of the ENGINE (10_state.md R35, R37).
`opened` is what ENV leaves in `rxq` should this turn open the channel (42_sequencer.md R141: an arbitrary finite
byte sequence chosen by ENV). -/
structure Answers where
  txAck  : Bool
  txNak  : Bool
  tick   : Bool
  opened : List Byte
deriving DecidableEq, Repr, Inhabited

/-- ENV answers nothing in this turn. -/
def Answers.quiet : Answers := { txAck := false, txNak := false, tick := false, opened := [] }

/-- One event of the machine (00_scope.md R9): which agent moves, and its free choices (10_state.md R20, R41). -/
inductive Move where
  /-- HOST drives the host command port (10_state.md R33). -/
  | host (opValid : Bool) (op : BitVec 2) (rx tx : Pin)
  /-- The ENGINE takes the step that is enabled under ENV's answers, or waits (42_sequencer.md R153). -/
  | engine (a : Answers)
  /-- ENV-ARRIVE(b): a byte arrives from the sensor (42_sequencer.md R150). -/
  | arrive (b : Byte)
  /-- `rst` is asserted; `q` is what the transport's buffer holds afterwards (70_reset_and_hazards.md R210,
  10_state.md R43). -/
  | rst (q : List Byte)
deriving DecidableEq, Repr, Inhabited

/-- A line of a HOST program: the three operations and the two pseudo-operations (30_encoding.md R84, R85). -/
inductive HostLine where
  | init (rx tx : Pin)
  | flush
  | readCo2
  | boot (rx tx : Pin)
  | safeRead
deriving DecidableEq, Repr

/-- The operations a line stands for (30_encoding.md R84, R85). -/
def HostLine.expand : HostLine → List Instr
  | .init rx tx => [.init rx tx]
  | .flush => [.flush]
  | .readCo2 => [.readCo2]
  | .boot rx tx => [.init rx tx, .flush]
  | .safeRead => [.flush, .readCo2]

/-- The written form of a line (30_encoding.md R84, R85). -/
def HostLine.text : HostLine → String
  | .init rx tx => "INIT " ++ toString rx ++ ", " ++ toString tx
  | .flush => "FLUSH"
  | .readCo2 => "READCO2"
  | .boot rx tx => "BOOT " ++ toString rx ++ ", " ++ toString tx
  | .safeRead => "SAFEREAD"

/-- ENV's choices written beside one HOST line (30_encoding.md R86): `pre:` the bytes in `rxq` when the line
starts, `tx: ack*k` with or without a `nak`, `rx:` the bytes that arrive after the ninth `ack`, `timeout`, `late:`,
and the buffer's contents after an INIT. -/
structure EnvScript where
  pre     : List Byte
  acks    : Nat
  nak     : Bool
  rx      : List Byte
  timeout : Bool
  late    : List Byte
  opened  : List Byte
deriving DecidableEq, Repr

end Sys2Proof
end

