-- ==== Sys2Proof/Config.lean ====
section
/-! DEFINITION. The table of parameters of 00_scope.md R5, the status codes of 60_exceptions.md R180, and the free
values: what the spec leaves to the platform or to ENV, as constants with no body. -/

namespace Sys2Proof

/-- The parity of a serial character (00_scope.md R5). -/
inductive Parity where
  | none
  | even
  | odd
deriving DecidableEq, Repr

/-- The rows of 00_scope.md R5 that give the protocol its constants. Every function of the codec and every meaning
takes this record as its argument `p`; where it is not given it is `Protocol.stated`. -/
structure Protocol where
  /-- `START`: byte 0 of both frames. -/
  start : Byte
  /-- `ADDR`: byte 1 of a command frame. -/
  addr : Byte
  /-- `CMD_READ_CO2`: the command code "read gas concentration". -/
  cmdReadCo2 : Byte
  /-- `CHK_FIRST`: the first byte index the checksum sums (90 C2). -/
  chkFirst : Nat
  /-- `CHK_LAST`: the last byte index the checksum sums (90 C2). -/
  chkLast : Nat
  /-- `CHK_POS`: the index of the checksum byte in both frames. -/
  chkPos : Fin frameLen
  /-- `RSP_CMD_POS`: the index of the echoed command code in a response (90 C3). -/
  rspCmdPos : Fin frameLen
  /-- `RSP_HIGH_POS`: the index of the high concentration byte (90 C3). -/
  rspHighPos : Fin frameLen
  /-- `RSP_LOW_POS`: the index of the low concentration byte (90 C3). -/
  rspLowPos : Fin frameLen
  /-- `READING_CAL_MAX`: the top of the calibrated range, not enforced (90 C6): no rule reads it. -/
  readingCalMax : Nat
  /-- `DATA_BITS`: a property of the Serial Transport, outside the block (R4): no rule reads it. -/
  dataBits : Nat
  /-- `PARITY`, as `DATA_BITS`. -/
  parity : Parity
  /-- `STOP_BITS`, as `DATA_BITS`. -/
  stopBits : Nat
  /-- `E_OK` (92 D4). -/
  eOk : Int
  /-- `E_NOINIT` (92 D4). -/
  eNoInit : Int
  /-- `E_WRITE` (92 D4). -/
  eWrite : Int
  /-- `E_READ` (92 D4). -/
  eRead : Int
  /-- `E_REJECT` (92 D4). -/
  eReject : Int
  /-- `E_CHK` (92 D4). -/
  eChk : Int
  /-- `OP_INIT` (92 D2). -/
  opInit : BitVec 2
  /-- `OP_FLUSH` (92 D2). -/
  opFlush : BitVec 2
  /-- `OP_READCO2` (92 D2). -/
  opReadCo2 : BitVec 2
deriving DecidableEq, Repr

/-- The values the spec states (00_scope.md R5), the only ones it makes claims about (93 section 3). -/
abbrev Protocol.stated : Protocol where
  start := 0xFF
  addr := 0x01
  cmdReadCo2 := 0x86
  chkFirst := 1
  chkLast := 7
  chkPos := 8
  rspCmdPos := 1
  rspHighPos := 2
  rspLowPos := 3
  readingCalMax := 5000
  dataBits := 8
  parity := .none
  stopBits := 1
  eOk := 0
  eNoInit := -1
  eWrite := -2
  eRead := -3
  eReject := -4
  eChk := -5
  opInit := 0
  opFlush := 1
  opReadCo2 := 2

namespace Config

/-- The index of the command code in a command frame (30_encoding.md R71). -/
abbrev cmdPos : Nat := 2
/-- The reserved operation code (30_encoding.md R80). -/
abbrev opReserved : BitVec 2 := 3
/-- The default of `PIN_W` (00_scope.md R5, 93 U16). -/
abbrev defaultPinW : Nat := 8

/-- Free value: the OPEN parameter `READ_TIMEOUT_TICKS`, less its bound 1 (00_scope.md R5, 92 D15). -/
opaque timeoutTicksAboveOne : Nat
/-- Free value: what the OPEN width `TMO_W` has above the least width that holds the timeout (00_scope.md R5). -/
opaque timerBitsToSpare : Nat
/-- Free value: the OPEN parameter `BAUD`, on which no rule depends (00_scope.md R5, 92 D19). -/
opaque baudRate : Nat
/-- Free value: what the transport's buffer holds when the ENGINE leaves reset (10_state.md R43, 93 U2). -/
opaque rxqAtReset : List Byte
/-- Free value: what the transport's buffer holds after an INIT placed by `State.withFetchWord` (93 U2). -/
opaque rxqAfterOpen : Nat → List Byte
/-- Free values: the moves of HOST and ENV when a state's script has run out. A model gives ENV no law: every
answer is a free draw (10_state.md R20, R41). -/
opaque freeMove : Nat → Move

end Config

/-- The rows of 00_scope.md R5 that a platform chooses: OPEN, or with a default it may override. The machine carries
them in `State.cfg`, and no step writes them. -/
structure Config where
  /-- `CH_PRESENT_AT_RESET` (92 D8). -/
  chPresentAtReset : Bool
  /-- `AUTO_FLUSH` (92 D10). -/
  autoFlush : Bool
  /-- `READ_TIMEOUT_TICKS`, OPEN, at least 1 (92 D15). -/
  readTimeoutTicks : Nat
  /-- `TMO_W`, OPEN, with 2^TMO_W > READ_TIMEOUT_TICKS (92 D6). -/
  tmoW : Nat
  /-- `BAUD`, OPEN; no rule depends on it (92 D19). -/
  baud : Nat
  /-- `PIN_W`: bits of a pin identifier (92 D6, 93 U16). -/
  pinW : Nat
deriving DecidableEq, Repr

/-- The bounds the spec states for the OPEN parameters (00_scope.md R5, 93 U15). -/
abbrev Config.wf (c : Config) : Prop := 1 ≤ c.readTimeoutTicks ∧ c.readTimeoutTicks < 2 ^ c.tmoW

/-- The platform: the defaults of R5, and for the OPEN parameters free values within their stated bounds. Every
pair of values within the bounds is one of these. -/
def Config.platform : Config where
  chPresentAtReset := false
  autoFlush := false
  readTimeoutTicks := Config.timeoutTicksAboveOne + 1
  tmoW := Nat.log2 (Config.timeoutTicksAboveOne + 1) + 1 + Config.timerBitsToSpare
  baud := Config.baudRate
  pinW := Config.defaultPinW

/-- The whole table of 00_scope.md R5 as one configuration record. -/
structure Parameters extends Widths, Protocol, Config
deriving DecidableEq, Repr

/-- The table's values: what the spec states, and the platform's free values where it leaves a row OPEN. -/
def Parameters.platform : Parameters where
  toWidths := Widths.stated
  toProtocol := Protocol.stated
  toConfig := Config.platform

/-- What the spec states of the table: the widths that its other rules fix, and the bounds of the OPEN rows. -/
abbrev Parameters.wf (c : Parameters) : Prop := c.toWidths = Widths.stated ∧ c.toConfig.wf

/-- The result codes: success and the five error kinds (60_exceptions.md R180). -/
inductive Code where
  /-- Success. -/
  | ok
  /-- SerialNotInitialized (R181). -/
  | noInit
  /-- WriteFailure (R182). -/
  | write
  /-- ReadFailure, also called Timeout (R183, 90 C4). -/
  | read
  /-- CommandRejected (R184). -/
  | reject
  /-- ChecksumMismatch (R185). -/
  | chk
deriving DecidableEq, Repr

/-- The class of an error kind (60_exceptions.md R186). -/
inductive ErrorClass where
  | configuration
  | transport
  | protocol
deriving DecidableEq, Repr

end Sys2Proof
end

