-- ==== Sys2Proof/Machine/Codec.lean ====
section
/-! DEFINITION. The pure functions of the frame codec and checksum validator (40_codec.md R100 to R107), the
well-formed response (30_encoding.md R76) and the status bytes (60_exceptions.md R180). -/

/-! Every function takes the constants of 00_scope.md R5 as its argument `p`, the stated values by default. -/

namespace Sys2Proof.Machine

open Sys2Proof

/-- SUM7: the exact sum of the bytes `CHK_FIRST` to `CHK_LAST`, 1 to 7 (40_codec.md R100, 00_scope.md R5). -/
def sum7 (f : Frame) (p : Protocol := .stated) : Nat :=
  (((f.toList.take (p.chkLast + 1)).drop p.chkFirst).map BitVec.toNat).sum

/-- CHECKSUM: the two's-complement low byte of SUM7 (40_codec.md R101, 90 C1). -/
def checksum (f : Frame) (p : Protocol := .stated) : Byte :=
  BitVec.ofNat 8 ((0x100 - sum7 f p % 0x100) % 0x100)

/-- BUILD: a command frame for a command code and five data bytes; the checksum byte is written last
(40_codec.md R102). -/
def build (cmd d0 d1 d2 d3 d4 : Byte) (p : Protocol := .stated) : Frame :=
  let f : Frame := #v[p.start, p.addr, cmd, d0, d1, d2, d3, d4, 0]
  f.set p.chkPos (checksum f p)

/-- CF.READ_CO2 as the ENGINE builds it (42_sequencer.md R144). -/
def commandFrame (p : Protocol := .stated) : Frame := build p.cmdReadCo2 0 0 0 0 0 p

/-- `RF(V, x4, x5, x6, x7)`: the well-formed response that carries `V` (30_encoding.md R76). -/
def responseFrame (v : Ppm) (x4 x5 x6 x7 : Byte) (p : Protocol := .stated) : Frame :=
  let f : Frame :=
    #v[p.start, p.cmdReadCo2, BitVec.ofNat 8 (v.toNat / 256), BitVec.ofNat 8 (v.toNat % 256),
       x4, x5, x6, x7, 0]
  f.set p.chkPos (checksum f p)

/-- FRAMEOK: the start byte and the echoed command code (40_codec.md R104). -/
def frameOk (r : Frame) (cmd : Byte) (p : Protocol := .stated) : Bool :=
  r[0] == p.start && r[p.rspCmdPos] == cmd

/-- CHKOK: the checksum byte against the frame's own checksum (40_codec.md R105). -/
def chkOk (r : Frame) (p : Protocol := .stated) : Bool :=
  r[p.chkPos] == checksum r p

/-- DECODE: the reading, high byte times 256 plus low byte (40_codec.md R106, 30_encoding.md R77). -/
def decodeReading (r : Frame) (p : Protocol := .stated) : Ppm :=
  r[p.rspHighPos].setWidth readingW * 256 + r[p.rspLowPos].setWidth readingW

/-- VALIDATE: framing first, then the checksum, then the reading (40_codec.md R107). -/
def validate (r : Frame) (cmd : Byte) (p : Protocol := .stated) : Code × Ppm :=
  if !frameOk r cmd p then (.reject, 0)
  else if !chkOk r p then (.chk, 0)
  else (.ok, decodeReading r p)

/-- The status code of a result, a small integer (00_scope.md R5, 60_exceptions.md R180). -/
def codeValue (c : Code) (p : Protocol := .stated) : Int :=
  match c with
  | .ok => p.eOk
  | .noInit => p.eNoInit
  | .write => p.eWrite
  | .read => p.eRead
  | .reject => p.eReject
  | .chk => p.eChk

/-- The byte of a code on the `status` port, two's complement (60_exceptions.md R180). -/
def codeByte (c : Code) (p : Protocol := .stated) : Byte := BitVec.ofInt 8 (codeValue c p)

/-- The class of a code; success has none (60_exceptions.md R180, R186). -/
def codeClass : Code → Option ErrorClass
  | .ok => none
  | .noInit => some .configuration
  | .write => some .transport
  | .read => some .transport
  | .reject => some .protocol
  | .chk => some .protocol

end Sys2Proof.Machine
end

