-- ==== Sys2Proof/WellFormed.lean ====
section
/-! DEFINITION. Which instructions and scripts are well formed. -/

namespace Sys2Proof

open Machine

/-- The pin operands of INIT are numbers of `pinW` bits (30_encoding.md R79). -/
def Instr.pinsFit (i : Instr) (pinW : Nat := Config.defaultPinW) : Bool :=
  match i with
  | .init rx tx => decide (rx < 2 ^ pinW) && decide (tx < 2 ^ pinW)
  | .flush => true
  | .readCo2 => true
  | .reservedOp3 => true
  | .cfReadCo2 => true
  | .rfReadCo2 _ _ _ _ _ _ _ => true

/-- An instruction the spec calls legal: not the reserved operation, which a HOST must not present (30_encoding.md
R80), with pins that fit `PIN_W` bits (R79), and, for a response frame, with its checksum byte right (R75, R76;
40_codec.md R103). Every value of the pins and the other bytes of a response are legal (10_state.md R23,
30_encoding.md R83). -/
def Instr.wellFormed (i : Instr) (p : Protocol := .stated) (pinW : Nat := Config.defaultPinW) : Bool :=
  i.pinsFit pinW && match i with
  | .init _ _ => true
  | .flush => true
  | .readCo2 => true
  | .reservedOp3 => false
  | .cfReadCo2 => true
  | .rfReadCo2 high low x4 x5 x6 x7 chk =>
      chkOk #v[p.start, p.cmdReadCo2, high, low, x4, x5, x6, x7, chk] p

/-- An ENV script within the bounds of 30_encoding.md R86: at most nine bytes accepted, at most eight before a
`nak`, and a `timeout` or received bytes only after the ninth `ack`. -/
def EnvScript.wellFormed (e : EnvScript) : Bool :=
  e.acks ≤ (if e.nak then 8 else 9) && (e.acks == 9 || (e.rx.isEmpty && !e.timeout))

end Sys2Proof
end

