-- ==== Sys2Proof/Decode.lean ====
section
/-! DEFINITION. Decoding, total on any bytes, and the encoder (30_encoding.md R70 to R82). The constants of
00_scope.md R5 are the argument `p`; the words of spec/opcode_table.json are those of the stated values. -/

namespace Sys2Proof

open Machine

/-- The constant CF.READ_CO2, written out from 30_encoding.md R74. The ENGINE builds it
(`commandFrame`); Laws/Codec.lean proves the two equal. -/
def commandFrameBytes : Frame := #v[0xFF, 0x01, 0x86, 0x00, 0x00, 0x00, 0x00, 0x00, 0x79]

/-- Where an encoding stands: a host operation word with its two pin operands (30_encoding.md R79), or nine bytes
of a frame (R71, R72). -/
inductive Encoded where
  | hop (op : BitVec 2) (rx tx : Pin)
  | frame (f : Frame)
deriving DecidableEq, Repr

/-- Why an encoding is no row of the opcode table. -/
inductive DecodeError where
  /-- A byte string that is neither a frame (nine bytes, 30_encoding.md R70) nor a host operation word. -/
  | length
  /-- A frame that begins as a command frame but is not CF.READ_CO2: another command, or data bytes, or a wrong
  checksum (30_encoding.md R81). -/
  | otherCommand
  /-- A frame that begins as neither format: the class Rejected of 30_encoding.md R82. -/
  | framing
deriving DecidableEq, Repr

/-- The host operation word (30_encoding.md R79, R80). Total: every two-bit code is a row of the table. -/
def decodeOp (op : BitVec 2) (rx tx : Pin) (p : Protocol := .stated) : Instr :=
  if op = p.opInit then .init rx tx
  else if op = p.opFlush then .flush
  else if op = p.opReadCo2 then .readCo2
  else .reservedOp3

/-- A frame against the match and mask of the table's two frame rows (30_encoding.md R74, R75). The checksum of a
response is a relation between bytes and no part of its mask: VALIDATE judges it (R75, 40_codec.md R107). -/
def decodeFrame (f : Frame) (p : Protocol := .stated) : Except DecodeError Instr :=
  if f = commandFrame p then .ok .cfReadCo2
  else if f[0] = p.start ∧ f[1] = p.cmdReadCo2 then
    .ok (.rfReadCo2 f[2] f[3] f[4] f[5] f[6] f[7] f[8])
  else if f[0] = p.start ∧ f[1] = p.addr then .error .otherCommand
  else .error .framing

/-- The decoder. -/
def decode (e : Encoded) (p : Protocol := .stated) : Except DecodeError Instr :=
  match e with
  | .hop op rx tx => .ok (decodeOp op rx tx p)
  | .frame f => decodeFrame f p

/-- The encoder (30_encoding.md R74, R75, R79, R80). The operations without operands are written with both pin
fields 0; the decoder ignores them (R79). -/
def encode (i : Instr) (p : Protocol := .stated) : Encoded :=
  match i with
  | .init rx tx => .hop p.opInit rx tx
  | .flush => .hop p.opFlush 0 0
  | .readCo2 => .hop p.opReadCo2 0 0
  | .reservedOp3 => .hop Config.opReserved 0 0
  | .cfReadCo2 => .frame (commandFrame p)
  | .rfReadCo2 high low x4 x5 x6 x7 chk =>
      .frame #v[p.start, p.cmdReadCo2, high, low, x4, x5, x6, x7, chk]

/-- The decoder on a byte string: nine bytes are a frame in wire order (20_memory.md R51); three bytes are a host
operation word, its code in the low two bits of the first byte, then the receive pin, then the transmit pin. The
layout is the model's (notes/assumptions/10.md) and holds pins of up to eight bits, the default `PIN_W`; `decode`
reads the signals themselves, at any `PIN_W`. -/
def decodeBytes (bytes : List Byte) (p : Protocol := .stated) : Except DecodeError Instr :=
  match bytes with
  | [op, rx, tx] => decode (.hop (op.setWidth 2) rx.toNat tx.toNat) p
  | [b0, b1, b2, b3, b4, b5, b6, b7, b8] => decode (.frame #v[b0, b1, b2, b3, b4, b5, b6, b7, b8]) p
  | _ => .error .length

/-- The bytes of an encoding, in the layout of `decodeBytes`. -/
def Encoded.bytes : Encoded → List Byte
  | .hop op rx tx => [op.setWidth 8, BitVec.ofNat 8 rx, BitVec.ofNat 8 tx]
  | .frame f => f.toList

/-- The bytes of an instruction. -/
def encodeBytes (i : Instr) (p : Protocol := .stated) : List Byte := (encode i p).bytes

/-- A frame written as one 72-bit number, `f[0]` most significant, the notation of the table's match and mask
columns (00_scope.md R7). -/
def frameOfNumber (w : Nat) : Frame :=
  Vector.ofFn fun i => BitVec.ofNat 8 (w / 2 ^ (64 - 8 * i.val))

/-- The bytes that hold an instruction whose bits are `w` under the table's numbering: a row of two bits is the
code `op[1:0]` and its pins follow (zero where `w` gives them no bits); a row of 72 bits is a frame. -/
def tableBytes (nbits w : Nat) : List Byte :=
  if nbits ≤ 24 then [BitVec.ofNat 8 w, BitVec.ofNat 8 (w / 2 ^ 8), BitVec.ofNat 8 (w / 2 ^ 16)]
  else (frameOfNumber w).toList

/-- The instruction the decoder reads from a word of spec/opcode_table.json. -/
def decodeTableWord (nbits w : Nat) : Option Instr :=
  (decodeBytes (tableBytes nbits w)).toOption

end Sys2Proof
end

