-- ==== Sys2Proof/Machine/State.lean ====
section
/-! DEFINITION. The state of the machine, the reasons a step can stop, and the state after reset. -/

namespace Sys2Proof.Machine

open Sys2Proof

/-- The arbitrator's control state; with `idx` the block's program counter (10_state.md R24). -/
inductive Phase where
  /-- No exchange in progress: an operation can be accepted. -/
  | idle
  /-- The command frame is being written to the transport. -/
  | tx
  /-- The response frame is being read with a bounded wait. -/
  | rx
  /-- Nine bytes are in `rxbuf` and are about to be validated. -/
  | check
deriving DecidableEq, Repr

/-- Why a step stops the machine. -/
inductive Fault where
  /-- A frame buffer is used at an index 9 to 15, which no frame has (20_memory.md R50, R56: indices are 0 to 8 and
  there is no out-of-range access). Raised by the TX-ACK and RX-BYTE steps; no reachable state raises it. Safe. -/
  | frameIndex
deriving DecidableEq, Repr

/-- Why the model gives an instruction no meaning. -/
inductive Refusal where
  /-- An instruction whose meaning is not written yet, by its mnemonic. Raised by no arm of `exec`. Safe. -/
  | notModelled (mnemonic : String)
  /-- The reserved operation code 3 was presented: "The specified behaviour of a model is to refuse a program that
  presents it" (41_host_operations.md R129, 30_encoding.md R80). Raised by RESERVED_OP3. Safe. -/
  | reservedOperation
deriving DecidableEq, Repr

/-- The machine. The first group is the ENGINE's state (10_state.md R21); then what the ports carry (R33, R35, R37),
ENV's state that the ENGINE can observe (R38, R39), and the model's own fields. -/
structure State where
  /-- `ch_open`: the serial channel is initialised (R22). -/
  chOpen : Bool
  /-- `rx_pin`, shown at `cfg_rx_pin` (R23). -/
  rxPin : Pin
  /-- `tx_pin`, shown at `cfg_tx_pin` (R23). -/
  txPin : Pin
  /-- `phase` (R24). -/
  phase : Phase
  /-- `idx`: the index of the next byte to send or to store (R25). -/
  idx : BitVec 4
  /-- `txbuf[0..8]`: the command frame (R26). -/
  txbuf : Frame
  /-- `rxbuf[0..8]`: the response frame as it arrives (R27). -/
  rxbuf : Frame
  /-- `tmo`: ticks left in the bounded wait, a count that fits `TMO_W` bits (R28). -/
  tmo : Nat
  /-- `status`: the result code, two's complement (R29). -/
  status : Byte
  /-- `reading`: the concentration in ppm (R30). -/
  reading : Ppm
  /-- `rd_valid`: `reading` is a validated reading (R31). -/
  rdValid : Bool
  /-- `done`: the result port holds the last operation's result (R32). -/
  done : Bool
  /-- The pulse `flush_req`, as it stood in the last step (R37, R152). -/
  flushReq : Bool
  /-- The pulse `cfg_valid`, as it stood in the last step (R37, R152). -/
  cfgValid : Bool
  /-- `op_valid`: HOST presents an operation that has not been accepted yet (R33). -/
  opValid : Bool
  /-- `op`: the operation code presented (R33). -/
  op : BitVec 2
  /-- `op_rx_pin` (R33). -/
  opRxPin : Pin
  /-- `op_tx_pin` (R33). -/
  opTxPin : Pin
  /-- `tx_ack`: ENV accepts the offered byte (R35). -/
  txAck : Bool
  /-- `tx_nak`: ENV refuses the offered byte (R35). -/
  txNak : Bool
  /-- `tick`: one period of the timeout timebase has passed (R37). -/
  tick : Bool
  /-- What ENV leaves in the buffer if this turn opens the channel (42_sequencer.md R141). -/
  opened : List Byte
  /-- `rxq`: the received bytes not yet read, oldest first; unbounded (R38). -/
  rxq : List Byte
  /-- `txlog`: a ghost, the bytes accepted for transmission since reset, oldest first (R39). -/
  txlog : List Byte
  /-- The configuration record, a parameter of the step that no step writes (R41, 00_scope.md R5). -/
  cfg : Config
  /-- The model's own: the moves that HOST, ENV and the ENGINE are still to make, first move first. -/
  script : List Move
  /-- The model's own: how many moves have been drawn from `Config.freeMove` after the script ran out. -/
  drawn : Nat
deriving DecidableEq, Repr

/-- What a frame buffer and a pin register hold before their first write. The spec gives no value (10_state.md R40,
R42); DESIGN CHOICE, notes/assumptions/1.md. -/
def unwrittenFrame : Frame := #v[0, 0, 0, 0, 0, 0, 0, 0, 0]

/-- The value of a pin register before the first INIT (notes/assumptions/1.md). -/
def unwrittenPin : Pin := 0

/-- The machine right after reset (10_state.md R42, R43; 70_reset_and_hazards.md R210): the ENGINE waits in IDLE
for an operation, `rxq` is whatever the transport holds, `txlog` is restarted, and no program is placed: HOST
presents nothing and the script is empty. -/
def State.reset : State where
  chOpen := Parameters.platform.chPresentAtReset
  rxPin := unwrittenPin
  txPin := unwrittenPin
  phase := .idle
  idx := 0
  txbuf := unwrittenFrame
  rxbuf := unwrittenFrame
  tmo := 0
  status := 0
  reading := 0
  rdValid := false
  done := false
  flushReq := false
  cfgValid := false
  opValid := false
  op := 0
  opRxPin := 0
  opTxPin := 0
  txAck := false
  txNak := false
  tick := false
  opened := []
  rxq := Config.rxqAtReset
  txlog := []
  cfg := Parameters.platform.toConfig
  script := []
  drawn := 0

end Sys2Proof.Machine
end

