-- ==== Sys2Proof/Machine/Flags.lean ====
section
/-! DEFINITION. Every flag the steps write: the result flags `done` and `rd_valid` with the result they qualify
(60_exceptions.md R188, 42_sequencer.md R144), `ch_open` (10_state.md R22), and the pulses (R37, R152). -/

namespace Sys2Proof.Machine

open Sys2Proof

/-- The result port of a completed operation (60_exceptions.md R188): `done` is set and `rd_valid` says whether the
value is a validated reading. -/
def State.withResult (c : Code) (value : Ppm) (valid : Bool) (s : State) (p : Protocol := .stated) : State :=
  { s with status := codeByte c p, reading := value, rdValid := valid, done := true }

/-- The result port while an exchange is in progress (42_sequencer.md R144, 93 U17). -/
def State.withoutResult (s : State) : State :=
  { s with status := 0, reading := 0, rdValid := false, done := false }

/-- `ch_open` is set by INIT and cleared by nothing but reset (10_state.md R22). -/
def State.setOpen (s : State) : State := { s with chOpen := true }

/-- The pulses are 1 only in the steps that name them (42_sequencer.md R152): every step begins with both at 0. -/
def State.lowerPulses (s : State) : State := { s with flushReq := false, cfgValid := false }

end Sys2Proof.Machine
end

