-- ==== Sys2Proof/Machine/Operands.lean ====
section
/-! DEFINITION. Where the steps read and write their operands: the frame buffers at `idx`, and the receive stream's
next byte (10_state.md R25 to R27, 20_memory.md R50, R51, R56). -/

namespace Sys2Proof.Machine

open Sys2Proof

/-- `f[i]` for a four-bit index; none at the indices 9 to 15, which no frame has (20_memory.md R50, R56). -/
def frameGet (f : Frame) (i : BitVec 4) : Option Byte := f[i.toNat]?

/-- `f[i] <- b` for a four-bit index; none at the indices 9 to 15. -/
def frameSet (f : Frame) (i : BitVec 4) (b : Byte) : Option Frame :=
  if h : i.toNat < frameLen then some (f.set i.toNat b) else none

/-- What the `PIN_W` wires of a pin operand carry (10_state.md R33): the number's low `PIN_W` bits. -/
def State.pinWires (n : Nat) (s : State) : Pin := n % 2 ^ s.cfg.pinW

/-- The byte the ENGINE offers in TX, `txbuf[idx]` (10_state.md R35). -/
def State.offered (s : State) : Option Byte := frameGet s.txbuf s.idx

/-- The command code that was sent, `txbuf[2]` (41_host_operations.md R128). -/
def State.sentCommand (s : State) : Byte := s.txbuf[Config.cmdPos]

end Sys2Proof.Machine
end

