-- ==== Sys2Proof/Machine/Ops.lean ====
section
/-! DEFINITION. The named operations over the state (00_scope.md R8): the stream primitives, completion ("taking an
exception"), reset, and the agents' writes to the ports. -/

namespace Sys2Proof.Machine

open Sys2Proof

/-- `complete(code, value)`: end the operation with `rd_valid` = 0. This is how an error is raised: the code is
recorded in `status`, control goes nowhere, and the ENGINE is idle (60_exceptions.md R187, R188). -/
def State.complete (c : Code) (value : Ppm) (s : State) (p : Protocol := .stated) : State :=
  { s.withResult c value false p with phase := .idle, idx := 0 }

/-- `complete_reading(v)`: end a READCO2 with success (60_exceptions.md R188). There is no return from an error:
the next accepted operation overwrites the result (R190). -/
def State.completeReading (v : Ppm) (s : State) (p : Protocol := .stated) : State :=
  { s.withResult .ok v true p with phase := .idle, idx := 0 }

/-- The end of a judged exchange: success with a reading, or an error with the value 0 (42_sequencer.md R149). -/
def State.completeWith (result : Code × Ppm) (s : State) (p : Protocol := .stated) : State :=
  if result.1 = .ok then s.completeReading result.2 p else s.complete result.1 0 p

/-- `TxWrite(b)` answered `ack`: the byte is on the wire (00_scope.md R8, 10_state.md R39). -/
def State.txWrite (b : Byte) (s : State) : State := { s with txlog := s.txlog ++ [b] }

/-- `RxFlush()` with its pulse `flush_req`: every unread received byte is discarded (00_scope.md R8, 10_state.md
R37). -/
def State.rxFlush (s : State) : State := { s with rxq := [], flushReq := true }

/-- The opening of the channel: the pins are stored and shown with the pulse `cfg_valid`, and the buffer holds what
ENV leaves in it (42_sequencer.md R141). -/
def State.openChannel (rx tx : Pin) (s : State) : State :=
  { s.setOpen with rxPin := rx, txPin := tx, cfgValid := true, rxq := s.opened }

/-- The step that leaves IDLE: the flush of `AUTO_FLUSH`, the command frame, and an empty result port
(42_sequencer.md R144). -/
def State.beginExchange (s : State) (p : Protocol := .stated) : State :=
  { (if s.cfg.autoFlush then s.rxFlush else s).withoutResult with
    txbuf := commandFrame p, idx := 0, phase := .tx }

/-- Bookkeeping after an accepted byte: the next index, or, after the ninth, the phase RX with the timeout window
opened (42_sequencer.md R145). -/
def State.afterSent (s : State) : State :=
  if s.idx < 8 then { s with idx := s.idx + 1 }
  else { s with idx := 0, tmo := s.cfg.readTimeoutTicks, phase := .rx }

/-- Bookkeeping after a stored byte: the next index, or, after the ninth, the phase CHECK (42_sequencer.md R147). -/
def State.afterStored (s : State) : State :=
  if s.idx < 8 then { s with idx := s.idx + 1 } else { s with idx := 0, phase := .check }

/-- A tick counted with no byte waiting: the window shrinks, or expires with `E_READ` (42_sequencer.md R148). -/
def State.countTick (s : State) (p : Protocol := .stated) : State :=
  if 1 < s.tmo then { s with tmo := s.tmo - 1 } else { s with tmo := 0 }.complete .read 0 p

/-- HOST drives the command port, whose pin operands have `PIN_W` bits (10_state.md R33). -/
def State.present (opValid : Bool) (op : BitVec 2) (rx tx : Pin) (s : State) : State :=
  { s.lowerPulses with opValid := opValid, op := op, opRxPin := s.pinWires rx, opTxPin := s.pinWires tx }

/-- The presented operation has been accepted and no longer waits at the port (10_state.md R33); elsewhere than in
IDLE it still waits (R151 of 42_sequencer.md). -/
def State.takeOp (s : State) : State :=
  if s.phase = .idle then { s with opValid := false } else s

/-- ENV's answers stand at the transport port for one turn of the ENGINE (10_state.md R35, R37). -/
def State.sample (a : Answers) (s : State) : State :=
  { s.lowerPulses with txAck := a.txAck, txNak := a.txNak, tick := a.tick, opened := a.opened }

/-- ENV-ARRIVE(b) (42_sequencer.md R150). -/
def State.arrived (b : Byte) (s : State) : State := { s.lowerPulses with rxq := s.rxq ++ [b] }

/-- `rst`: every element of the ENGINE takes its reset value; the transport's buffer then holds `q` and the ghost is
restarted. The configuration and what HOST drives at its port are no state of the ENGINE and stay (10_state.md R42,
R43; 70_reset_and_hazards.md R210). -/
def State.engineReset (q : List Byte) (s : State) : State :=
  { s.lowerPulses with
    chOpen := s.cfg.chPresentAtReset
    rxPin := unwrittenPin
    txPin := unwrittenPin
    phase := .idle
    idx := 0
    txbuf := unwrittenFrame
    rxbuf := unwrittenFrame
    tmo := 0
    status := 0
    reading := 0
    rdValid := false
    done := false
    rxq := q
    txlog := [] }

end Sys2Proof.Machine
end

