-- ==== Sys2Proof/Machine/HostOps.lean ====
section
/-! DEFINITION. The host operations that are one step: INIT, FLUSH and the reserved code. An operation is accepted
only in IDLE; elsewhere it waits and changes nothing (10_state.md R33, 42_sequencer.md R151). -/

namespace Sys2Proof.Machine

open Sys2Proof

/-- INIT: ACCEPT-INIT (42_sequencer.md R141, 41_host_operations.md R121). -/
def execInit (rx tx : Pin) (s : State) (p : Protocol := .stated) : Host.Outcome State Fault Refusal :=
  if s.phase = .idle then .next ((s.openChannel rx tx).complete .ok 0 p) else .next s

/-- FLUSH: ACCEPT-FLUSH (42_sequencer.md R142, 41_host_operations.md R122). -/
def execFlush (s : State) (p : Protocol := .stated) : Host.Outcome State Fault Refusal :=
  if s.phase = .idle then
    .next (if s.chOpen then s.rxFlush.complete .ok 0 p else s.complete .noInit 0 p)
  else .next s

/-- The reserved operation code has no semantics: the model refuses it (41_host_operations.md R129, 30_encoding.md
R80). -/
def execReservedOp3 (_s : State) : Host.Outcome State Fault Refusal :=
  .refused .reservedOperation

end Sys2Proof.Machine
end

