-- ==== Sys2Proof/Machine/Exchange.lean ====
section
/-! DEFINITION. The steps of an exchange (42_sequencer.md R143 to R149), shared by READCO2 and the two frames, and
the meaning of READCO2. -/

namespace Sys2Proof.Machine

open Sys2Proof

/-- ACCEPT-READ-CLOSED and ACCEPT-READ-OPEN (42_sequencer.md R143, R144). -/
def acceptRead (s : State) (p : Protocol := .stated) : State :=
  if s.chOpen then s.beginExchange p else s.complete .noInit 0 p

/-- TX-NAK, TX-ACK or a wait, in that order; `tx_nak` wins (42_sequencer.md R145, R146, R153; 10_state.md R35). -/
def sendByte (s : State) (p : Protocol := .stated) : Host.Outcome State Fault Refusal :=
  if s.txNak then .next (s.complete .write 0 p)
  else if s.txAck then
    match s.offered with
    | some b => .next (s.txWrite b).afterSent
    | none => .fault .frameIndex
  else .next s

/-- RX-BYTE, RX-TICK or a wait, in that order; a waiting byte wins over a tick (42_sequencer.md R147, R148, R153). -/
def receiveByte (s : State) (p : Protocol := .stated) : Host.Outcome State Fault Refusal :=
  match s.rxq with
  | b :: rest =>
    match frameSet s.rxbuf s.idx b with
    | some f => .next { s with rxbuf := f, rxq := rest }.afterStored
    | none => .fault .frameIndex
  | [] => if s.tick then .next (s.countTick p) else .next s

/-- CHECK on a frame of nine received bytes, against the command code that was sent (42_sequencer.md R149). -/
def judgeFrame (r : Frame) (s : State) (p : Protocol := .stated) : State :=
  s.completeWith (validate r s.sentCommand p) p

/-- READCO2: in IDLE its acceptance; while an exchange is in progress, that READCO2's next step (42_sequencer.md
R143 to R149; 41_host_operations.md R123, R126). -/
def execReadCo2 (s : State) (p : Protocol := .stated) : Host.Outcome State Fault Refusal :=
  match s.phase with
  | .idle => .next (acceptRead s p)
  | .tx => sendByte s p
  | .rx => receiveByte s p
  | .check => .next (judgeFrame s.rxbuf s p)

end Sys2Proof.Machine
end

