-- ==== Sys2Proof/Machine/Wire.lean ====
section
/-! DEFINITION. The two wire frames: the command frame as the ENGINE sends it, and a response frame as it judges
it. -/

namespace Sys2Proof.Machine

open Sys2Proof

/-- CF.READ_CO2: while the ENGINE is in TX, the transport's answer to the byte of the frame now offered
(42_sequencer.md R145, R146). In another phase an answer of the transport changes nothing (R151). -/
def execCfReadCo2 (s : State) (p : Protocol := .stated) : Host.Outcome State Fault Refusal :=
  if s.phase = .tx then sendByte s p else .next s

/-- RF.READ_CO2: while the ENGINE is in CHECK, the frame is judged: VALIDATE against the command code that was sent
(42_sequencer.md R149, 40_codec.md R107). In another phase no frame is judged (R149's guard). -/
def execRfReadCo2 (high low x4 x5 x6 x7 chk : Byte) (s : State) (p : Protocol := .stated) :
    Host.Outcome State Fault Refusal :=
  if s.phase = .check then
    .next (judgeFrame #v[p.start, p.cmdReadCo2, high, low, x4, x5, x6, x7, chk] s p)
  else .next s

end Sys2Proof.Machine
end

