-- ==== Sys2Proof/Machine/Dispatch.lean ====
section
/-! DEFINITION. The dispatch: one arm per row of spec/opcode_table.json. -/

namespace Sys2Proof.Machine

open Sys2Proof

/-- What an instruction does (spec/opcode_table.json names each row's rules). -/
def exec (i : Instr) (s : State) : Host.Outcome State Fault Refusal :=
  match i with
  | .init rx tx => Sys2Proof.Machine.execInit rx tx s
  | .flush => Sys2Proof.Machine.execFlush s
  | .readCo2 => Sys2Proof.Machine.execReadCo2 s
  | .reservedOp3 => Sys2Proof.Machine.execReservedOp3 s
  | .cfReadCo2 => Sys2Proof.Machine.execCfReadCo2 s
  | .rfReadCo2 high low x4 x5 x6 x7 chk => Sys2Proof.Machine.execRfReadCo2 high low x4 x5 x6 x7 chk s

end Sys2Proof.Machine
end

