-- ==== Sys2Proof/Machine/Sequencer.lean ====
section
/-! DEFINITION. The sequencer: which instruction is current, one turn of the ENGINE, and one move of an agent
(42_sequencer.md R140, R150 to R153). -/

namespace Sys2Proof.Machine

open Sys2Proof

/-- The instruction the ENGINE is at. In IDLE it is the operation HOST presents, if any (10_state.md R33); in TX the
command frame being sent; in RX the READCO2 in progress; in CHECK the response frame received. The steps TX and
CHECK have no guard on a buffer's contents (42_sequencer.md R145, R149): where a buffer holds no frame of the
format, the READCO2 in progress takes its step all the same. -/
def fetch (s : State) (p : Protocol := .stated) : Option Instr :=
  match s.phase with
  | .idle => if s.opValid then some (decodeOp s.op s.opRxPin s.opTxPin p) else none
  | .tx =>
    match decodeFrame s.txbuf p with
    | .ok .cfReadCo2 => some .cfReadCo2
    | _ => some .readCo2
  | .rx => some .readCo2
  | .check =>
    match decodeFrame s.rxbuf p with
    | .ok (.rfReadCo2 high low x4 x5 x6 x7 chk) => some (.rfReadCo2 high low x4 x5 x6 x7 chk)
    | _ => some .readCo2

/-- One turn of an ENGINE whose constants are `p` and whose instructions mean what `run` says: at most one step is
enabled (42_sequencer.md R153); in IDLE with nothing presented the ENGINE waits. -/
def engineTurnWith (run : Instr → State → Host.Outcome State Fault Refusal) (p : Protocol) (a : Answers)
    (s : State) : Host.Outcome State Fault Refusal :=
  match fetch (s.sample a) p with
  | some i => run i (s.sample a).takeOp
  | none => .next (s.sample a)

/-- One turn of the ENGINE under ENV's answers, with the stated constants. -/
def engineTurn (a : Answers) (s : State) : Host.Outcome State Fault Refusal :=
  engineTurnWith exec .stated a s

/-- One move of one agent (10_state.md R20), where a turn of the ENGINE is `turn`. -/
def performMoveWith (turn : Answers → State → Host.Outcome State Fault Refusal) (m : Move) (s : State) :
    Host.Outcome State Fault Refusal :=
  match m with
  | .host opValid op rx tx => .next (s.present opValid op rx tx)
  | .engine a => turn a s
  | .arrive b => .next (s.arrived b)
  | .rst q => .next (s.engineReset q)

/-- One move of one agent, with the stated constants. -/
def performMove (m : Move) (s : State) : Host.Outcome State Fault Refusal :=
  performMoveWith engineTurn m s

/-- The next move: the head of the script, or, when it has run out, a free draw (10_state.md R20, R41). -/
def State.nextMove (s : State) : Move :=
  match s.script with
  | m :: _ => m
  | [] => Config.freeMove s.drawn

/-- The state with the next move taken from the script or drawn. -/
def State.advance (s : State) : State :=
  match s.script with
  | _ :: rest => { s with script := rest }
  | [] => { s with drawn := s.drawn + 1 }

/-- ENV's answers to an instruction placed for the next turn: an offered byte is accepted, and an opened channel's
buffer is ENV's free choice. -/
def State.placedAnswers (s : State) : Answers :=
  { txAck := true, txNak := false, tick := false, opened := Config.rxqAfterOpen s.drawn }

/-- An instruction placed where the ENGINE fetches, with the turn that runs it as the script's next move: an
operation word at the command port of an idle ENGINE; the command frame in `txbuf`, its first byte on offer; any
other frame as nine received bytes in `rxbuf`, the answer to the command frame (notes/assumptions/9.md). -/
def State.placeWord (s : State) (nbits w : Nat) : State :=
  let s := { s with script := .engine s.placedAnswers :: s.script, idx := 0 }
  if nbits ≤ 24 then
    { s with
      phase := .idle, opValid := true, op := BitVec.ofNat 2 w
      opRxPin := s.pinWires (w / 2 ^ 8 % 2 ^ 8), opTxPin := s.pinWires (w / 2 ^ 16 % 2 ^ 8) }
  else if frameOfNumber w = commandFrameBytes then
    { s with phase := .tx, txbuf := frameOfNumber w }
  else
    { s with phase := .check, txbuf := commandFrame, rxbuf := frameOfNumber w }

end Sys2Proof.Machine
end

