-- ==== Sys2Proof/Machine/Step.lean ====
section
/-! DEFINITION. One step of the machine, and how the host's check places an instruction. -/

namespace Sys2Proof.Machine

open Sys2Proof

/-- One step: the next move of the script, performed. -/
def step (s : State) : Host.Outcome State Fault Refusal :=
  performMove s.nextMove s.advance

/-- `s` with the instruction whose bits are `w` stored where the next step fetches it. -/
def State.withFetchWord (s : State) (nbits w : Nat) : State := s.placeWord nbits w

end Sys2Proof.Machine
end

