-- ==== Sys2Proof/Machine/Operation.lean ====
section
/-! DEFINITION. The operation level: each host operation as one atomic function of the state before it, its operands
and the transport's answers (41_host_operations.md R120 to R123). The machine itself is the step level; that the two
agree is 42_sequencer.md R154. -/

namespace Sys2Proof.Machine

open Sys2Proof

/-- INIT at the operation level (41_host_operations.md R121); `q` is what ENV leaves in the buffer. -/
def opInit (rx tx : Pin) (q : List Byte) (s : State) (p : Protocol := .stated) : State :=
  { s with rxPin := rx, txPin := tx, chOpen := true, rxq := q }.complete .ok 0 p

/-- FLUSH at the operation level (41_host_operations.md R122). -/
def opFlush (s : State) (p : Protocol := .stated) : State :=
  if s.chOpen then { s with rxq := [] }.complete .ok 0 p else s.complete .noInit 0 p

/-- The bytes a read can take: those in `rxq` when the operation starts, less what `AUTO_FLUSH` discards, and those
that arrive while it lasts (41_host_operations.md R120, R123). -/
def readable (arrived : List Byte) (s : State) : List Byte :=
  (if s.cfg.autoFlush then [] else s.rxq) ++ arrived

/-- `rxbuf[i] <- b[i]` for `i` in 0..k-1; the other bytes keep what they hold (41_host_operations.md R123). -/
def storeBytes (b : List Byte) (f : Frame) : Frame :=
  Vector.ofFn fun i => (b[i.val]?).getD f[i]

/-- READCO2 at the operation level (41_host_operations.md R123): `w` is the count `write` answers, `k` the count
`read` answers, `arrived` the bytes that came into `rxq` while the operation lasted. -/
def opReadCo2 (w k : Nat) (arrived : List Byte) (s : State) (p : Protocol := .stated) : State :=
  if s.chOpen = false then s.complete .noInit 0 p
  else
    let queue := readable arrived s
    let s := { s with txbuf := commandFrame p, rxq := queue, txlog := s.txlog ++ (commandFrame p).toList.take w }
    if w < frameLen then s.complete .write 0 p
    else
      let s := { s with rxbuf := storeBytes (queue.take k) s.rxbuf, rxq := queue.drop k }
      if k < frameLen then s.complete .read 0 p
      else if !frameOk s.rxbuf s.sentCommand p then s.complete .reject 0 p
      else if !chkOk s.rxbuf p then s.complete .chk 0 p
      else s.completeReading (decodeReading s.rxbuf p) p

/-- What both levels speak of: the ENGINE's state without the timer, and ENV's two byte sequences. -/
structure View where
  chOpen  : Bool
  rxPin   : Pin
  txPin   : Pin
  phase   : Phase
  idx     : BitVec 4
  txbuf   : Frame
  rxbuf   : Frame
  status  : Byte
  reading : Ppm
  rdValid : Bool
  done    : Bool
  rxq     : List Byte
  txlog   : List Byte
deriving DecidableEq, Repr

/-- The view of a state that both levels share. -/
def State.view (s : State) : View where
  chOpen := s.chOpen
  rxPin := s.rxPin
  txPin := s.txPin
  phase := s.phase
  idx := s.idx
  txbuf := s.txbuf
  rxbuf := s.rxbuf
  status := s.status
  reading := s.reading
  rdValid := s.rdValid
  done := s.done
  rxq := s.rxq
  txlog := s.txlog

end Sys2Proof.Machine
end

