-- ==== Sys2Proof/Machine/Ports.lean ====
section
/-! DEFINITION. What the ports show: the ENGINE's outputs as functions of its state (42_sequencer.md R152), and the
two input signals that ENV's buffer drives (10_state.md R36). -/

namespace Sys2Proof.Machine

open Sys2Proof

/-- `op_ready`: an operation can be accepted (10_state.md R33). -/
def State.opReady (s : State) : Bool := s.phase == .idle

/-- `tx_valid` (10_state.md R35). -/
def State.txValid (s : State) : Bool := s.phase == .tx

/-- `tx_data`: the offered byte in TX, and no meaning otherwise (10_state.md R35). -/
def State.txData (s : State) : Option Byte := if s.phase = .tx then s.offered else none

/-- `rx_valid`: `rxq` is not empty (10_state.md R36). -/
def State.rxValid (s : State) : Bool := !s.rxq.isEmpty

/-- `rx_data`: the oldest unread byte, when there is one (10_state.md R36). -/
def State.rxData (s : State) : Option Byte := s.rxq.head?

/-- `rx_take`: the ENGINE consumes `rx_data` in its next step (10_state.md R36). -/
def State.rxTake (s : State) : Bool := s.phase == .rx && s.rxValid

/-- All that HOST and ENV can see of the ENGINE. -/
structure Outputs where
  opReady  : Bool
  done     : Bool
  status   : Byte
  reading  : Ppm
  rdValid  : Bool
  txValid  : Bool
  txData   : Option Byte
  rxTake   : Bool
  flushReq : Bool
  cfgValid : Bool
  cfgRxPin : Pin
  cfgTxPin : Pin
deriving DecidableEq, Repr

/-- The ENGINE's outputs (42_sequencer.md R152; 10_state.md R34). -/
def State.outputs (s : State) : Outputs where
  opReady := s.opReady
  done := s.done
  status := s.status
  reading := s.reading
  rdValid := s.rdValid
  txValid := s.txValid
  txData := s.txData
  rxTake := s.rxTake
  flushReq := s.flushReq
  cfgValid := s.cfgValid
  cfgRxPin := s.rxPin
  cfgTxPin := s.txPin

end Sys2Proof.Machine
end

