-- ==== Sys2Proof/Safety.lean ====
section
/-! DEFINITION. The terms claims are stated in: runs, what is counted along a run, the invariants of every reachable
state, legal moves, and the premise on the sensor. -/

namespace Sys2Proof

/-- HOST presents INIT. -/
def Move.presentsInit : Move → Bool
  | .host opValid op _ _ => opValid && op == Protocol.stated.opInit
  | _ => false

/-- The move is a reset. -/
def Move.isReset : Move → Bool
  | .rst _ => true
  | _ => false

/-- The move is a turn of the ENGINE. -/
def Move.isTurn : Move → Bool
  | .engine _ => true
  | _ => false

/-- The move is a turn of the ENGINE with a tick. -/
def Move.ticks : Move → Bool
  | .engine a => a.tick
  | _ => false

/-- The move is a turn of the ENGINE in which ENV accepts an offered byte. -/
def Move.accepts : Move → Bool
  | .engine a => a.txAck && !a.txNak
  | _ => false

/-- The move is a turn of the ENGINE in which ENV refuses an offered byte. -/
def Move.refuses : Move → Bool
  | .engine a => a.txNak
  | _ => false

/-- HOST does not present the reserved operation (30_encoding.md R80). -/
def Move.legal : Move → Bool
  | .host opValid op _ _ => !opValid || op != Config.opReserved
  | _ => true

namespace Machine

/-- A run of moves, stopping at the first fault or refusal. -/
def runMoves : List Move → State → Host.Outcome State Fault Refusal
  | [], s => .next s
  | m :: ms, s =>
    match performMove m s with
    | .next s' => runMoves ms s'
    | .fault r => .fault r
    | .refused r => .refused r

/-- The state a run of exactly these moves ends in, when it is the first of the run in which `done` = 1: the end of
an operation (42_sequencer.md R158). -/
def runToDone : List Move → State → Option State
  | [], s => if s.done then some s else none
  | m :: ms, s =>
    if s.done then none
    else
      match performMove m s with
      | .next s' => runToDone ms s'
      | _ => none

/-- How many moves of a run satisfy `p` in the state they are made in. -/
def countRun (p : Move → State → Bool) : List Move → State → Nat
  | [], _ => 0
  | m :: ms, s =>
    (if p m s then 1 else 0) +
      match performMove m s with
      | .next s' => countRun p ms s'
      | _ => 0

/-- The move is a TX-ACK step (42_sequencer.md R145). -/
def isTxAck : Move → State → Bool
  | .engine a, s => s.phase == .tx && a.txAck && !a.txNak
  | _, _ => false

/-- The move is a TX-ACK or TX-NAK step (42_sequencer.md R145, R146). -/
def isTxStep : Move → State → Bool
  | .engine a, s => s.phase == .tx && (a.txAck || a.txNak)
  | _, _ => false

/-- The move is a CHECK step (42_sequencer.md R149). -/
def isCheck : Move → State → Bool
  | .engine _, s => s.phase == .check
  | _, _ => false

/-- The move is an RX-BYTE step (42_sequencer.md R147). -/
def isRxByte : Move → State → Bool
  | .engine _, s => s.phase == .rx && s.rxValid
  | _, _ => false

/-- The move is an RX-TICK step: a tick that is counted (42_sequencer.md R148). -/
def isRxTick : Move → State → Bool
  | .engine a, s => s.phase == .rx && !s.rxValid && a.tick
  | _, _ => false

/-- The move is a step of the ENGINE and not a wait (42_sequencer.md R153). -/
def isEngineStep : Move → State → Bool
  | .engine a, s =>
    match s.phase with
    | .idle => s.opValid
    | .tx => a.txAck || a.txNak
    | .rx => s.rxValid || a.tick
    | .check => true
  | _, _ => false

/-- The bytes that arrive along a run, in order (42_sequencer.md R150). -/
def arrivals : List Move → List Byte
  | [] => []
  | .arrive b :: ms => b :: arrivals ms
  | _ :: ms => arrivals ms

/-- The ENGINE is idle with an open channel and HOST presents READCO2: the guard of ACCEPT-READ-OPEN
(42_sequencer.md R144). -/
def State.readyToRead (s : State) : Prop :=
  s.phase = .idle ∧ s.chOpen = true ∧ s.opValid = true ∧ s.op = Protocol.stated.opReadCo2

/-- ENV's answers stand at the port, the pulses are low, and the script has moved on: the state in which a turn's
instruction runs, when no operation is taken from the port. -/
def State.turn (s : State) (a : Answers) (rest : List Move) : State :=
  { s with
    flushReq := false, cfgValid := false, txAck := a.txAck, txNak := a.txNak, tick := a.tick
    opened := a.opened, script := rest }

/-- The state that reset leaves under a configuration, with any contents of the transport's buffer (10_state.md R42,
R43) and any moves to come. -/
def State.resetWith (c : Config) (q : List Byte) (moves : List Move) : State :=
  { State.reset with chOpen := c.chPresentAtReset, cfg := c, rxq := q, script := moves }

/-- An INIT waits at the command port (30_encoding.md R79). -/
def State.presentsInit (s : State) : Bool := s.opValid && s.op == Protocol.stated.opInit

/-- A log of transmitted bytes that is a concatenation of prefixes of CF.READ_CO2 (42_sequencer.md R155 (7)). -/
def FramePrefixes (log : List Byte) : Prop :=
  ∃ ks : List Nat, log = (ks.map fun k => commandFrameBytes.toList.take k).flatten

/-- What the exchange in progress has put on the wire so far (42_sequencer.md R155 (6)). -/
def State.sentSoFar (s : State) : List Byte :=
  match s.phase with
  | .idle => []
  | .tx => commandFrameBytes.toList.take s.idx.toNat
  | .rx => commandFrameBytes.toList
  | .check => commandFrameBytes.toList

/-- The invariants of every reachable state: 42_sequencer.md R155 (1) to (7), with what 10_state.md R23, R28, R30,
R33, R40 and 93 U15, U17 add of the pins' width, of the timer and of an empty result port. -/
structure Inv (s : State) : Prop where
  cfg_wf        : s.cfg.wf
  idx_le        : s.idx.toNat ≤ 8
  idx_rest      : s.phase = .idle ∨ s.phase = .check → s.idx = 0
  done_idle     : s.done = true → s.phase = .idle
  busy_open     : s.phase ≠ .idle → s.done = false ∧ s.chOpen = true
  status_code   : ∃ c : Code, s.status = codeByte c
  valid_ok      : s.rdValid = true → s.done = true ∧ s.status = codeByte .ok
  invalid_zero  : s.rdValid = false → s.reading = 0
  pending_zero  : s.done = false → s.status = 0 ∧ s.rdValid = false
  txbuf_written : s.txbuf = commandFrameBytes ∨ s.txbuf = unwrittenFrame
  txbuf_busy    : s.phase ≠ .idle → s.txbuf = commandFrameBytes
  tmo_fits      : s.tmo ≤ s.cfg.readTimeoutTicks
  pins_fit      : s.rxPin < 2 ^ s.cfg.pinW ∧ s.txPin < 2 ^ s.cfg.pinW
  port_fits     : s.opRxPin < 2 ^ s.cfg.pinW ∧ s.opTxPin < 2 ^ s.cfg.pinW
  tmo_running   : s.phase = .rx → 1 ≤ s.tmo
  txlog_frames  : ∃ earlier, FramePrefixes earlier ∧ s.txlog = earlier ++ s.sentSoFar

/-- The transmit part of a READCO2 that ENV accepts whole: no byte arrives, nothing is refused, nine offered bytes
are accepted, and the ninth acceptance is its last move. -/
def AcceptsFrame (ms : List Move) : Prop :=
  arrivals ms = [] ∧ (ms.all fun m => !m.isReset && !m.refuses) = true ∧
    (ms.filter Move.accepts).length = frameLen ∧ (ms.getLast?.map Move.accepts) = some true

/-- SensorAnswers(V) for one READCO2 accepted at `s` (10_state.md R44): `rxq` is empty at its acceptance; ENV accepts
all nine offered bytes (`sending`); after the ninth it appends exactly the nine bytes of a well-formed response that
carries `v` and nothing else; and fewer than `READ_TIMEOUT_TICKS` ticks occur before the ninth byte (`early` ends
before it, `last` is it, `rest` follows it). R44 says when the counting of ticks ends and not when it begins. The
model counts them from the ninth acknowledgement, so over `early` and not over `sending`: DESIGN CHOICE,
notes/assumptions/20.md. -/
def SensorAnswers (v : Ppm) (x4 x5 x6 x7 : Byte) (s : State) (sending early : List Move) (last : Byte)
    (rest : List Move) : Prop :=
  s.rxq = [] ∧ AcceptsFrame sending ∧
    arrivals early ++ [last] = (responseFrame v x4 x5 x6 x7).toList ∧ arrivals rest = [] ∧
    ((early ++ rest).all fun m => !m.isReset) = true ∧
    (early.filter Move.ticks).length < s.cfg.readTimeoutTicks

end Machine

end Sys2Proof
end

