-- ==== Sys2Proof/Certificates/Slice0/Obligations.lean ====
section
/-! DEFINITION. The statements for the provers, in the order of the spec's files: codec, encodings, the step and the
instructions, frames, invariants, and whole exchanges. Where a function takes the constants of 00_scope.md R5, a
statement is about the values the spec states, which stand where no others are given. -/

open Sys2Proof
open Sys2Proof.Machine

/-! ## The codec (40_codec.md) -/

/-- 40_codec.md R101: the three formulas of the checksum agree, the law of the sum holds, and bytes 0 and 8 are not
read. -/
def Obligations.ChecksumFormulasAgree : Prop :=
  ∀ f : Frame,
    (checksum f).toNat = (0x100 - sum7 f % 0x100) % 0x100 ∧
    ((checksum f).toNat : Int) = (-(sum7 f : Int)) % 0x100 ∧
    checksum f = ~~~ (BitVec.ofNat 8 (sum7 f)) + 1 ∧
    (sum7 f + (checksum f).toNat) % 0x100 = 0 ∧
    ∀ b0 b8 : Byte, checksum ((f.set 0 b0).set 8 b8) = checksum f

/-- 40_codec.md R103, the construction invariant. -/
def Obligations.BuiltFrameIsSelfConsistent : Prop :=
  ∀ cmd d0 d1 d2 d3 d4 : Byte,
    (build cmd d0 d1 d2 d3 d4)[8] = checksum (build cmd d0 d1 d2 d3 d4) ∧
    (build cmd d0 d1 d2 d3 d4)[0] = 0xFF ∧ (build cmd d0 d1 d2 d3 d4)[1] = 0x01

/-- 40_codec.md R105: the two forms of CHKOK agree; byte 0 is not read; any change of the checksum byte alone, or of
one summed byte alone, is caught; changes of several summed bytes whose differences cancel modulo 256 are not. -/
def Obligations.ChecksumCatchesSingleChanges : Prop :=
  ∀ r : Frame,
    (chkOk r = true ↔ r[8] = checksum r) ∧
    (chkOk r = true ↔ (sum7 r + r[8].toNat) % 0x100 = 0) ∧
    (∀ b : Byte, chkOk (r.set 0 b) = chkOk r) ∧
    (chkOk r = true → ∀ b : Byte, b ≠ r[8] → chkOk (r.set 8 b) = false) ∧
    (chkOk r = true → ∀ (i : Fin 9) (b : Byte), 1 ≤ i.val → i.val ≤ 7 → b ≠ r[i] →
      chkOk (r.set i.val b) = false) ∧
    (∀ r' : Frame, r'[8] = r[8] → sum7 r' % 0x100 = sum7 r % 0x100 → chkOk r' = chkOk r)

/-- 30_encoding.md R77: the reading is the high byte times 256 plus the low byte, both unsigned. -/
def Obligations.ReadingIsHighTimes256PlusLow : Prop :=
  ∀ r : Frame,
    (decodeReading r).toNat = r[2].toNat * 256 + r[3].toNat ∧
    (decodeReading r).extractLsb' 8 8 = r[2] ∧ (decodeReading r).extractLsb' 0 8 = r[3]

/-- 40_codec.md R107: VALIDATE tests the framing before the checksum and returns 0 with every error. -/
def Obligations.ValidateTestsFramingFirst : Prop :=
  ∀ (r : Frame) (cmd : Byte),
    (¬(r[0] = 0xFF ∧ r[1] = cmd) → validate r cmd = (.reject, 0)) ∧
    ((r[0] = 0xFF ∧ r[1] = cmd) → r[8] ≠ checksum r → validate r cmd = (.chk, 0)) ∧
    ((r[0] = 0xFF ∧ r[1] = cmd) → r[8] = checksum r → validate r cmd = (.ok, decodeReading r))

/-- 40_codec.md R108: the round trip of the codec, for every value and every filler bytes. -/
def Obligations.WellFormedResponseCarriesItsValue : Prop :=
  ∀ (v : Ppm) (x4 x5 x6 x7 : Byte), validate (responseFrame v x4 x5 x6 x7) 0x86 = (.ok, v)

/-! ## Encodings (30_encoding.md) -/

/-- 30_encoding.md R74: the one command frame, as BUILD makes it and as the 72-bit number of the table. -/
def Obligations.CommandFrameIsTheConstant : Prop :=
  build 0x86 0 0 0 0 0 = #v[0xFF, 0x01, 0x86, 0x00, 0x00, 0x00, 0x00, 0x00, 0x79] ∧
  encode .cfReadCo2 = .frame #v[0xFF, 0x01, 0x86, 0x00, 0x00, 0x00, 0x00, 0x00, 0x79] ∧
  frameOfNumber 0xFF0186000000000079 = #v[0xFF, 0x01, 0x86, 0x00, 0x00, 0x00, 0x00, 0x00, 0x79]

/-- Words written out from the encodings of 30_encoding.md R74, R75 and R79, one for each row of the table, decode to
their instructions. Two things in it are the model's choice: the three-byte layout of an operation word
(notes/assumptions/10.md), and that code 3 of R80 decodes to a constructor of its own, where 93 U1 has a decoder
return none (notes/assumptions/11.md). -/
def Obligations.WrittenWordsDecode : Prop :=
  decodeBytes [0x00, 0x04, 0x05] = .ok (.init 4 5) ∧
  decodeBytes [0x01, 0x00, 0x00] = .ok .flush ∧
  decodeBytes [0x02, 0x00, 0x00] = .ok .readCo2 ∧
  decodeBytes [0x03, 0x00, 0x00] = .ok .reservedOp3 ∧
  decodeTableWord 72 0xFF0186000000000079 = some .cfReadCo2 ∧
  decodeTableWord 72 0xFF86029047000000A1 = some (.rfReadCo2 0x02 0x90 0x47 0x00 0x00 0x00 0xA1)

/-- Every instruction is read back from its encoding (30_encoding.md R71 to R75, R79), with every operand at every
value, and from its bytes with pins of eight bits, the default `PIN_W`. Three things in it are the model's: the byte
layout of an operation word in the second half (notes/assumptions/10.md), a constructor for the reserved code, which
93 U1 would not have (notes/assumptions/11.md), and that a response frame with a wrong checksum byte decodes as well
(notes/assumptions/16.md). -/
def Obligations.DecodeInvertsEncode : Prop :=
  ∀ i : Instr, decode (encode i) = .ok i ∧ (i.pinsFit = true → decodeBytes (encodeBytes i) = .ok i)

/-- A frame that decodes is the encoding of what it decodes to; so is an operation word, but for the pin fields
that FLUSH, READCO2 and the reserved code ignore (30_encoding.md R79). -/
def Obligations.DecodedWordReencodes : Prop :=
  (∀ (f : Frame) (i : Instr), decode (.frame f) = .ok i → encode i = .frame f) ∧
  (∀ (op : BitVec 2) (rx tx : Pin) (i : Instr), decode (.hop op rx tx) = .ok i →
    ∃ rx' tx' : Pin, encode i = .hop op rx' tx' ∧ (op = 0 → rx' = rx ∧ tx' = tx))

/-- 00_scope.md R7 with 30_encoding.md R74, R75: a frame written as one 72-bit number, byte 0 most significant,
decodes as the frame does. -/
def Obligations.FrameNumberDecodesAsFrame : Prop :=
  ∀ f : Frame,
    decodeTableWord 72
      (f[0].toNat * 2 ^ 64 + f[1].toNat * 2 ^ 56 + f[2].toNat * 2 ^ 48 + f[3].toNat * 2 ^ 40 +
        f[4].toNat * 2 ^ 32 + f[5].toNat * 2 ^ 24 + f[6].toNat * 2 ^ 16 + f[7].toNat * 2 ^ 8 + f[8].toNat) =
      (decodeFrame f).toOption

/-! ## The step (42_sequencer.md R150 to R153) -/

/-- A step performs the script's next move; when the script has run out, the move is a free draw (00_scope.md R9,
10_state.md R20). That the moves to come stand in the state is the model's choice (notes/assumptions/4.md). -/
def Obligations.StepPerformsNextMove : Prop :=
  (∀ (s : State) (m : Move) (rest : List Move), s.script = m :: rest →
    step s = performMove m { s with script := rest }) ∧
  (∀ s : State, s.script = [] →
    step s = performMove (Config.freeMove s.drawn) { s with drawn := s.drawn + 1 })

/-- A turn of the ENGINE runs the decoded instruction: in IDLE the operation presented, in TX the command frame in
`txbuf`, in RX the READCO2 in progress, in CHECK the response in `rxbuf`. With nothing presented in IDLE it waits.
`s.turn a rest` is the state with ENV's answers at the port, the pulses low and the script moved on. That the
accepted operation is then gone from the port (`opValid := false`) is the model's reading of the handshake
(notes/assumptions/5.md); that the frames are fetched from their buffers, and RX from the READCO2 in progress, is
its choice (notes/assumptions/12.md, 13.md). A `txbuf` that holds another frame, which no reachable state has, and
an `rxbuf` with other bytes are left to other statements (`CheckJudgesReceivedBytes` for the second). -/
def Obligations.TurnRunsDecodedInstruction : Prop :=
  ∀ (s : State) (a : Answers) (rest : List Move), s.script = .engine a :: rest →
    (s.phase = .idle → s.opValid = true → ∀ i : Instr, decode (.hop s.op s.opRxPin s.opTxPin) = .ok i →
      step s = exec i { s.turn a rest with opValid := false }) ∧
    (s.phase = .idle → s.opValid = false → step s = .next (s.turn a rest)) ∧
    (s.phase = .tx → decode (.frame s.txbuf) = .ok .cfReadCo2 → step s = exec .cfReadCo2 (s.turn a rest)) ∧
    (s.phase = .rx → step s = exec .readCo2 (s.turn a rest)) ∧
    (s.phase = .check → ∀ high low x4 x5 x6 x7 chk : Byte,
      decode (.frame s.rxbuf) = .ok (.rfReadCo2 high low x4 x5 x6 x7 chk) →
      step s = exec (.rfReadCo2 high low x4 x5 x6 x7 chk) (s.turn a rest))

/-- 42_sequencer.md R150: ENV-ARRIVE appends the byte to `rxq`, in any phase, and changes nothing else (the pulses,
which no such step names, are 0). -/
def Obligations.ArrivalAppendsToQueue : Prop :=
  ∀ (s : State) (b : Byte),
    performMove (.arrive b) s = .next { s with rxq := s.rxq ++ [b], flushReq := false, cfgValid := false }

/-- 10_state.md R33: HOST drives the command port, whose pin operands have `PIN_W` bits, and changes nothing else.
That the pulses are then 0 follows notes/assumptions/7.md, and that a pin is a number whose low `PIN_W` bits the
wires carry notes/assumptions/21.md. -/
def Obligations.HostDrivesOnlyItsPort : Prop :=
  ∀ (s : State) (v : Bool) (op : BitVec 2) (rx tx : Pin),
    performMove (.host v op rx tx) s = .next
      { s with
        opValid := v, op := op, opRxPin := rx % 2 ^ s.cfg.pinW, opTxPin := tx % 2 ^ s.cfg.pinW
        flushReq := false, cfgValid := false }

/-- 10_state.md R42, R43 for a reset at any moment. That the pins and buffers then hold zeros is the model's choice
(notes/assumptions/1.md); that HOST keeps driving its port is too (notes/assumptions/8.md). -/
def Obligations.ResetClearsEngine : Prop :=
  ∀ (s : State) (q : List Byte), ∃ t : State, performMove (.rst q) s = .next t ∧
    t.chOpen = s.cfg.chPresentAtReset ∧ t.phase = .idle ∧ t.idx = 0 ∧ t.tmo = 0 ∧ t.status = 0 ∧ t.reading = 0 ∧
    t.rdValid = false ∧ t.done = false ∧ t.rxPin = 0 ∧ t.txPin = 0 ∧ t.txbuf = Vector.replicate 9 0 ∧
    t.rxbuf = Vector.replicate 9 0 ∧ t.rxq = q ∧ t.txlog = [] ∧ t.cfg = s.cfg ∧ t.opValid = s.opValid ∧
    t.op = s.op ∧ t.script = s.script

/-! ## The instructions: completion, results and frames -/

/-- 41_host_operations.md R121: INIT completes in IDLE with `E_OK` for every pair of pins, whether the channel was
open or not; the next state is written out, so all it does not name is unchanged. -/
def Obligations.InitCompletes : Prop :=
  ∀ (rx tx : Pin) (s : State), s.phase = .idle →
    exec (.init rx tx) s = .next
      { s with
        rxPin := rx, txPin := tx, chOpen := true, cfgValid := true, rxq := s.opened
        status := 0x00, reading := 0, rdValid := false, done := true, phase := .idle, idx := 0 }

/-- 41_host_operations.md R122: FLUSH completes in IDLE; on an open channel it empties `rxq` with `E_OK`, on a closed
one it is a no-op on the transport and completes with `E_NOINIT`. -/
def Obligations.FlushCompletes : Prop :=
  ∀ s : State, s.phase = .idle →
    exec .flush s = .next
      (if s.chOpen = true then
        { s with
          rxq := [], flushReq := true
          status := 0x00, reading := 0, rdValid := false, done := true, phase := .idle, idx := 0 }
      else
        { s with status := 0xFF, reading := 0, rdValid := false, done := true, phase := .idle, idx := 0 })

/-- 42_sequencer.md R143: a READCO2 on a closed channel completes with `E_NOINIT` and nothing else, also when
`AUTO_FLUSH` = 1. -/
def Obligations.ReadOnClosedChannelFails : Prop :=
  ∀ s : State, s.phase = .idle → s.chOpen = false →
    exec .readCo2 s = .next
      { s with status := 0xFF, reading := 0, rdValid := false, done := true, phase := .idle, idx := 0 }

/-- 42_sequencer.md R144: a READCO2 on an open channel builds the frame, clears the result port and enters TX; with
`AUTO_FLUSH` = 1 it first empties `rxq`. -/
def Obligations.ReadOnOpenChannelStarts : Prop :=
  ∀ s : State, s.phase = .idle → s.chOpen = true →
    exec .readCo2 s = .next
      { s with
        rxq := if s.cfg.autoFlush = true then [] else s.rxq
        flushReq := if s.cfg.autoFlush = true then true else s.flushReq
        txbuf := #v[0xFF, 0x01, 0x86, 0x00, 0x00, 0x00, 0x00, 0x00, 0x79]
        idx := 0, status := 0, reading := 0, rdValid := false, done := false, phase := .tx }

/-- An acknowledged byte of the command frame is appended to `txlog`; the ninth opens the timeout window and enters
RX: the effect of TX-ACK (42_sequencer.md R145). That one TX-ACK step is the meaning of CF.READ_CO2 is the model's
choice (notes/assumptions/12.md). -/
def Obligations.AckSendsOfferedByte : Prop :=
  ∀ (s : State) (b : Byte), s.phase = .tx → s.txAck = true → s.txNak = false →
    s.txbuf[s.idx.toNat]? = some b →
    exec .cfReadCo2 s = .next
      (if s.idx.toNat < 8 then { s with txlog := s.txlog ++ [b], idx := s.idx + 1 }
      else { s with txlog := s.txlog ++ [b], idx := 0, tmo := s.cfg.readTimeoutTicks, phase := .rx })

/-- A refused byte ends the operation with `E_WRITE`, whatever `tx_ack` is; `txlog` is unchanged: the effect of TX-NAK
(42_sequencer.md R146). That the TX-NAK step is the meaning of CF.READ_CO2 is the model's choice
(notes/assumptions/12.md). -/
def Obligations.NakEndsWithWriteFailure : Prop :=
  ∀ s : State, s.phase = .tx → s.txNak = true →
    exec .cfReadCo2 s = .next
      { s with status := 0xFE, reading := 0, rdValid := false, done := true, phase := .idle, idx := 0 }

/-- A waiting byte is stored at `rxbuf[idx]` whatever its value and whether or not a tick occurs; the ninth enters
CHECK: the effect of RX-BYTE (42_sequencer.md R147). That `exec` of READCO2 in RX is that step is the model's reading
(notes/assumptions/13.md). An index of 9 or more is left to `IndexOutsideFrameFaults`. -/
def Obligations.WaitingByteIsStored : Prop :=
  ∀ (s : State) (b : Byte) (rest : List Byte) (h : s.idx.toNat < 9), s.phase = .rx → s.rxq = b :: rest →
    exec .readCo2 s = .next
      (if s.idx.toNat < 8 then { s with rxbuf := s.rxbuf.set s.idx.toNat b, rxq := rest, idx := s.idx + 1 }
      else { s with rxbuf := s.rxbuf.set s.idx.toNat b, rxq := rest, idx := 0, phase := .check })

/-- A tick with no byte waiting shrinks the window, or expires it with `E_READ`, the bytes already taken staying in
`rxbuf`: the effect of RX-TICK (42_sequencer.md R148). A tick outside RX, or with a byte waiting, changes nothing
(R148, R151). That `exec` of READCO2 in RX is the RX-TICK step is the model's reading (notes/assumptions/13.md). -/
def Obligations.TickCountsDownOrExpires : Prop :=
  (∀ s : State, s.phase = .rx → s.rxq = [] → s.tick = true →
    exec .readCo2 s = .next
      (if 1 < s.tmo then { s with tmo := s.tmo - 1 }
      else
        { s with
          tmo := 0, status := 0xFD, reading := 0, rdValid := false, done := true, phase := .idle, idx := 0 })) ∧
  (∀ (s t : State) (a : Answers), s.phase ≠ .rx ∨ s.rxq ≠ [] →
    performMove (.engine { a with tick := true }) s = .next t →
    performMove (.engine { a with tick := false }) s = .next { t with tick := false })

/-- A frame with the start byte and the echo in place is judged against the command code sent, then by its checksum;
a good frame gives its reading: the effect of CHECK (42_sequencer.md R149, 40_codec.md R107, 30_encoding.md R75).
That judging is the meaning of RF.READ_CO2 in CHECK is the model's choice (notes/assumptions/12.md). -/
def Obligations.ResponseFrameIsJudged : Prop :=
  ∀ (high low x4 x5 x6 x7 chk : Byte) (s : State), s.phase = .check →
    exec (.rfReadCo2 high low x4 x5 x6 x7 chk) s = .next
      (if s.txbuf[2] ≠ 0x86 then
        { s with status := 0xFC, reading := 0, rdValid := false, done := true, phase := .idle, idx := 0 }
      else if chk.toNat =
          (0x100 - (0x86 + high.toNat + low.toNat + x4.toNat + x5.toNat + x6.toNat + x7.toNat) % 0x100) % 0x100 then
        { s with status := 0x00, reading := high ++ low, rdValid := true, done := true, phase := .idle, idx := 0 }
      else
        { s with status := 0xFB, reading := 0, rdValid := false, done := true, phase := .idle, idx := 0 })

/-- 42_sequencer.md R149: the turn in CHECK judges the nine bytes of `rxbuf`, whatever they are, against the command
code that was sent, in one step and under any answers of ENV. -/
def Obligations.CheckJudgesReceivedBytes : Prop :=
  ∀ (s : State) (a : Answers), s.phase = .check →
    ∃ t : State, performMove (.engine a) s = .next t ∧
      t = { s.turn a s.script with
        status := codeByte (validate s.rxbuf s.txbuf[2]).1
        reading := if (validate s.rxbuf s.txbuf[2]).1 = .ok then s.rxbuf[2] ++ s.rxbuf[3] else 0
        rdValid := decide ((validate s.rxbuf s.txbuf[2]).1 = .ok)
        done := true, phase := .idle, idx := 0 } ∧
      ((validate s.rxbuf s.txbuf[2]).1 = .reject ↔ s.rxbuf[0] ≠ 0xFF ∨ s.rxbuf[1] ≠ s.txbuf[2]) ∧
      ((validate s.rxbuf s.txbuf[2]).1 = .chk ↔
        s.rxbuf[0] = 0xFF ∧ s.rxbuf[1] = s.txbuf[2] ∧ s.rxbuf[8] ≠ checksum s.rxbuf) ∧
      ((validate s.rxbuf s.txbuf[2]).1 = .ok ↔
        s.rxbuf[0] = 0xFF ∧ s.rxbuf[1] = s.txbuf[2] ∧ s.rxbuf[8] = checksum s.rxbuf)

/-- The READCO2 in progress takes the steps of its frames: TX as the command frame, CHECK as the response frame when
`rxbuf` holds one; any other nine bytes that do not begin with `0xFF` and the command code sent are `E_REJECT`. The
steps are those of 42_sequencer.md R145, R146 and R149; that `exec` of READCO2 in a busy phase is the exchange's next
step is the model's reading (notes/assumptions/13.md), and that the two frames are instructions with these steps is
its choice (notes/assumptions/12.md). RX is left to `WaitingByteIsStored` and `TickCountsDownOrExpires`. -/
def Obligations.ReadContinuesItsExchange : Prop :=
  ∀ s : State,
    (s.phase = .tx → exec .readCo2 s = exec .cfReadCo2 s) ∧
    (s.phase = .check → ∀ i : Instr, decode (.frame s.rxbuf) = .ok i → i ≠ .cfReadCo2 →
      exec .readCo2 s = exec i s) ∧
    (s.phase = .check → ¬(s.rxbuf[0] = 0xFF ∧ s.rxbuf[1] = s.txbuf[2]) →
      exec .readCo2 s = .next
        { s with status := 0xFC, reading := 0, rdValid := false, done := true, phase := .idle, idx := 0 })

/-- 30_encoding.md R80: the reserved operation is refused, by itself and when the ENGINE would accept it. -/
def Obligations.ReservedOperationIsRefused : Prop :=
  (∀ s : State, exec .reservedOp3 s = .refused .reservedOperation) ∧
  (∀ (s : State) (a : Answers), s.phase = .idle → s.opValid = true → s.op = 3 →
    performMove (.engine a) s = .refused .reservedOperation)

/-- An instruction outside the phase that names it changes nothing. The spec says so of inputs: an operation waits while
the ENGINE is busy (10_state.md R33), inputs in other phases change no state (42_sequencer.md R151), and with no step
enabled the ENGINE waits (R153). What that makes of `exec` is the model's: of INIT, FLUSH and READCO2 in a busy phase
(notes/assumptions/13.md), of the two frames outside theirs (notes/assumptions/12.md), and that a wait answers the
same state (notes/assumptions/15.md). -/
def Obligations.InstructionWaitsOutsideItsPhase : Prop :=
  (∀ (rx tx : Pin) (s : State), s.phase ≠ .idle → exec (.init rx tx) s = .next s ∧ exec .flush s = .next s) ∧
  (∀ s : State, s.phase ≠ .tx ∨ (s.txAck = false ∧ s.txNak = false) → exec .cfReadCo2 s = .next s) ∧
  (∀ (high low x4 x5 x6 x7 chk : Byte) (s : State), s.phase ≠ .check →
    exec (.rfReadCo2 high low x4 x5 x6 x7 chk) s = .next s) ∧
  (∀ s : State, s.phase = .rx → s.rxq = [] → s.tick = false → exec .readCo2 s = .next s)

/-- A frame buffer used at an index no frame has stops the machine by name: the model's choice for a case the spec
rules out (20_memory.md R50, R56; notes/assumptions/6.md); `NoFaultUnderInvariants` says it never happens. -/
def Obligations.IndexOutsideFrameFaults : Prop :=
  (∀ s : State, s.phase = .tx → s.txAck = true → s.txNak = false → 9 ≤ s.idx.toNat →
    exec .cfReadCo2 s = .fault .frameIndex) ∧
  (∀ s : State, s.phase = .rx → s.rxq ≠ [] → 9 ≤ s.idx.toNat → exec .readCo2 s = .fault .frameIndex)

/-- 60_exceptions.md R188: what completion changes, and that it changes nothing else. -/
def Obligations.CompletionWritesTheResult : Prop :=
  ∀ (s : State) (c : Code) (value : Ppm),
    s.complete c value =
      { s with
        status := codeByte c, reading := value, rdValid := false, done := true, phase := .idle, idx := 0 } ∧
    s.completeReading value =
      { s with status := 0x00, reading := value, rdValid := true, done := true, phase := .idle, idx := 0 }

/-! ## What a move can change -/

/-- 42_sequencer.md R140: the table of transitions, each with the phase, the index and the status after it, and no
others. -/
def Obligations.TransitionsAreTheTable : Prop :=
  (∀ (s t : State) (a : Answers), performMove (.engine a) s = .next t →
    (t.phase, t.idx, t.status) =
      match s.phase with
      | .idle =>
        if s.opValid = false then (.idle, s.idx, s.status)
        else if s.op = 0 then (.idle, 0, 0x00)
        else if s.op = 1 then (.idle, 0, if s.chOpen = true then 0x00 else 0xFF)
        else if s.chOpen = true then (.tx, 0, 0x00)
        else (.idle, 0, 0xFF)
      | .tx =>
        if a.txNak = true then (.idle, 0, 0xFE)
        else if a.txAck = false then (.tx, s.idx, s.status)
        else if s.idx.toNat < 8 then (.tx, s.idx + 1, s.status)
        else (.rx, 0, s.status)
      | .rx =>
        if s.rxq ≠ [] then if s.idx.toNat < 8 then (.rx, s.idx + 1, s.status) else (.check, 0, s.status)
        else if a.tick = true ∧ s.tmo ≤ 1 then (.idle, 0, 0xFD)
        else (.rx, s.idx, s.status)
      | .check => (.idle, 0, codeByte (validate s.rxbuf s.txbuf[2]).1)) ∧
  (∀ (s t : State) (m : Move), m.isTurn = false → m.isReset = false → performMove m s = .next t →
    t.phase = s.phase ∧ t.idx = s.idx ∧ t.status = s.status)

/-- 42_sequencer.md R151: a tick outside RX, or in RX with a byte waiting, the transport's answer outside TX, and an
operation presented outside IDLE change no state: the turn ends in the same state but for the inputs themselves. -/
def Obligations.UnnamedInputsChangeNothing : Prop :=
  ∀ (s t : State) (a : Answers), performMove (.engine a) s = .next t →
    (s.phase ≠ .rx ∨ s.rxq ≠ [] → ∀ tick : Bool,
      performMove (.engine { a with tick := tick }) s = .next { t with tick := tick }) ∧
    (s.phase ≠ .tx → ∀ ack nak : Bool,
      performMove (.engine { a with txAck := ack, txNak := nak }) s =
        .next { t with txAck := ack, txNak := nak }) ∧
    (s.phase ≠ .idle → ∀ (v : Bool) (op : BitVec 2) (rx tx : Pin),
      performMove (.engine a) { s with opValid := v, op := op, opRxPin := rx, opTxPin := tx } =
        .next { t with opValid := v, op := op, opRxPin := rx, opTxPin := tx })

/-- 42_sequencer.md R152: the outputs as functions of the state, and the pulses only in the steps that name them. -/
def Obligations.OutputsAreFunctionsOfState : Prop :=
  (∀ s : State, s.outputs =
    { opReady := decide (s.phase = .idle), done := s.done, status := s.status, reading := s.reading
      rdValid := s.rdValid, txValid := decide (s.phase = .tx)
      txData := if s.phase = .tx then s.txbuf[s.idx.toNat]? else none
      rxTake := decide (s.phase = .rx ∧ s.rxq ≠ []), flushReq := s.flushReq, cfgValid := s.cfgValid
      cfgRxPin := s.rxPin, cfgTxPin := s.txPin }) ∧
  (∀ (s t : State) (m : Move), performMove m s = .next t →
    (t.flushReq = true ↔ m.isTurn = true ∧ s.phase = .idle ∧ s.opValid = true ∧ s.chOpen = true ∧
      (s.op = 1 ∨ (s.op = 2 ∧ s.cfg.autoFlush = true))) ∧
    (t.cfgValid = true ↔ m.isTurn = true ∧ s.phase = .idle ∧ s.opValid = true ∧ s.op = 0))

/-- 10_state.md R33: `op_ready` is 1 exactly in IDLE, an operation is accepted in the turn where it is presented and
`op_ready` = 1, and until then it waits at the port unchanged (42_sequencer.md R151, 70_reset_and_hazards.md R216).
That an accepted operation leaves the port is the model's reading of the handshake (notes/assumptions/5.md). -/
def Obligations.PresentedOperationWaitsUntilAccepted : Prop :=
  ∀ (s t : State) (a : Answers), performMove (.engine a) s = .next t →
    (s.outputs.opReady = true ↔ s.phase = .idle) ∧
    (t.op = s.op ∧ t.opRxPin = s.opRxPin ∧ t.opTxPin = s.opTxPin) ∧
    (s.outputs.opReady = true → t.opValid = false) ∧
    (s.outputs.opReady = false → t.opValid = s.opValid)

/-- 10_state.md R41: the configuration is a parameter that no move writes; neither does a move touch the script of
the moves to come. -/
def Obligations.ConfigurationIsNeverWritten : Prop :=
  ∀ (s t : State) (m : Move), performMove m s = .next t →
    t.cfg = s.cfg ∧ t.script = s.script ∧ t.drawn = s.drawn

/-- 20_memory.md R63: the ENGINE never offers a byte and takes one in the same state. -/
def Obligations.HalfDuplexPhases : Prop :=
  ∀ s : State,
    (s.outputs.txValid = true → s.phase = .tx) ∧ (s.outputs.rxTake = true → s.phase = .rx) ∧
    ¬(s.outputs.txValid = true ∧ s.outputs.rxTake = true)

/-- 10_state.md R22: INIT sets `ch_open` and nothing clears it but reset. -/
def Obligations.ChannelOpensByInitClosesByReset : Prop :=
  ∀ (s t : State) (m : Move), performMove m s = .next t → m.isReset = false → t.chOpen ≠ s.chOpen →
    s.chOpen = false ∧ t.chOpen = true ∧ m.isTurn = true ∧ s.phase = .idle ∧ s.opValid = true ∧ s.op = 0

/-- 10_state.md R23: the pin registers are written only by INIT, with its operands. -/
def Obligations.PinsWrittenOnlyByInit : Prop :=
  ∀ (s t : State) (m : Move), performMove m s = .next t → m.isReset = false →
    (t.rxPin ≠ s.rxPin ∨ t.txPin ≠ s.txPin) →
    m.isTurn = true ∧ s.phase = .idle ∧ s.opValid = true ∧ s.op = 0 ∧ t.rxPin = s.opRxPin ∧ t.txPin = s.opTxPin

/-- 10_state.md R26, 20_memory.md R67: all nine bytes of `txbuf` are written together by the step that accepts a
READCO2 on an open channel, as the constant frame, and by nothing else. -/
def Obligations.CommandBufferWrittenOnlyAtAcceptance : Prop :=
  ∀ (s t : State) (m : Move), performMove m s = .next t → m.isReset = false → t.txbuf ≠ s.txbuf →
    m.isTurn = true ∧ s.readyToRead ∧ t.txbuf = #v[0xFF, 0x01, 0x86, 0x00, 0x00, 0x00, 0x00, 0x00, 0x79]

/-- 10_state.md R27: `rxbuf` is written only in RX, one byte, at `idx`, from the head of `rxq`; every other byte of
it reads as before. -/
def Obligations.ReceiveBufferWrittenByteByByte : Prop :=
  ∀ (s t : State) (m : Move), performMove m s = .next t → m.isReset = false → t.rxbuf ≠ s.rxbuf →
    m.isTurn = true ∧ s.phase = .rx ∧ s.rxq = s.rxq.head?.toList ++ t.rxq ∧
    t.rxbuf[s.idx.toNat]? = s.rxq.head? ∧
    ∀ j : Nat, j ≠ s.idx.toNat → t.rxbuf[j]? = s.rxbuf[j]?

/-- 10_state.md R39, 20_memory.md R57: the transmit stream only grows, by the offered byte, in TX, when ENV accepts
it. -/
def Obligations.TransmitLogGrowsByOfferedByte : Prop :=
  ∀ (s t : State) (m : Move), performMove m s = .next t → m.isReset = false →
    t.txlog = s.txlog ++ (if isTxAck m s = true then (s.txbuf[s.idx.toNat]?).toList else [])

/-- 10_state.md R38 with 42_sequencer.md R141: an arrival appends to `rxq`, RX takes its head, FLUSH (and READCO2
with `AUTO_FLUSH` = 1) empties it, INIT leaves what ENV chooses, and no other move changes it. -/
def Obligations.ReceiveQueueChangesOnlyByItsRules : Prop :=
  ∀ (s t : State) (m : Move), performMove m s = .next t →
    t.rxq =
      match m with
      | .arrive b => s.rxq ++ [b]
      | .rst q => q
      | .host _ _ _ _ => s.rxq
      | .engine a =>
        match s.phase with
        | .idle =>
          if s.opValid = false then s.rxq
          else if s.op = 0 then a.opened
          else if s.chOpen = true ∧ (s.op = 1 ∨ s.cfg.autoFlush = true) then []
          else s.rxq
        | .rx => s.rxq.tail
        | _ => s.rxq

/-- 60_exceptions.md R196: the timer is loaded on entry to RX, counted down by RX-TICK, and touched by nothing
else. -/
def Obligations.TimerLoadedAndCountedOnlyByItsRules : Prop :=
  ∀ (s t : State) (m : Move), performMove m s = .next t → m.isReset = false →
    t.tmo =
      if isTxAck m s = true ∧ 8 ≤ s.idx.toNat then s.cfg.readTimeoutTicks
      else if isRxTick m s = true then s.tmo - 1
      else s.tmo

/-! ## Invariants -/

/-- The machine right after reset meets the invariants, whatever the transport's buffer holds. -/
def Obligations.ResetMeetsInvariants : Prop :=
  Inv State.reset ∧ ∀ (c : Config) (q : List Byte) (moves : List Move), c.wf → Inv (State.resetWith c q moves)

/-- Every step keeps the invariants, from every state that meets them, whatever HOST and ENV do. -/
def Obligations.StepKeepsInvariants : Prop :=
  ∀ s t : State, Inv s → step s = .next t → Inv t

/-- In every state that a run of any moves reaches from reset, under any configuration within its bounds: clauses (1)
to (6) of 42_sequencer.md R155, and of clause (7) that `txlog` is a concatenation of prefixes of the command frame.
Clause (7) itself ties each prefix to one exchange; `OutcomeTellsTransportEffects` says that of every exchange that
ends. `unwrittenFrame`, what `txbuf` holds before it is written, is the model's choice (notes/assumptions/1.md). The
step of the induction is `StepKeepsInvariants`. -/
def Obligations.ReachableStatesMeetR155 : Prop :=
  ∀ (c : Config) (q : List Byte) (moves : List Move) (n : Nat) (t : State), c.wf →
    Host.Core.run core n (State.resetWith c q moves) = .next t →
    (t.idx.toNat ≤ 8 ∧ (t.phase = .idle ∨ t.phase = .check → t.idx = 0)) ∧
    ((t.done = true → t.phase = .idle) ∧ (t.phase ≠ .idle → t.done = false ∧ t.chOpen = true)) ∧
    t.status ∈ ([0x00, 0xFF, 0xFE, 0xFD, 0xFC, 0xFB] : List Byte) ∧
    ((t.rdValid = true → t.done = true ∧ t.status = 0) ∧ (t.status ≠ 0 → t.reading = 0 ∧ t.rdValid = false)) ∧
    (t.txbuf = unwrittenFrame ∨ t.txbuf = #v[0xFF, 0x01, 0x86, 0x00, 0x00, 0x00, 0x00, 0x00, 0x79]) ∧
    (t.phase = .tx → ∃ earlier, t.txlog = earlier ++ t.txbuf.toList.take t.idx.toNat) ∧
    FramePrefixes t.txlog

/-- 20_memory.md R56: no state that meets the invariants uses a buffer outside its nine indices: no step faults. -/
def Obligations.NoFaultUnderInvariants : Prop :=
  ∀ (s : State) (r : Fault), Inv s → step s ≠ .fault r

/-- A run in which HOST never presents the reserved operation never stops, whatever ENV does (10_state.md R20,
60_exceptions.md R190: there is no fatal condition inside the core). -/
def Obligations.LegalRunsNeverStop : Prop :=
  ∀ (s : State) (ms : List Move), Inv s → (s.opValid = true → s.op ≠ 3) → (ms.all Move.legal) = true →
    ∃ t : State, runMoves ms s = .next t

/-- 60_exceptions.md R181, R195: on a closed channel, until INIT is presented or reset asserted, nothing is written to
or taken from the transport, no buffer changes, and every operation ends with `E_NOINIT`. -/
def Obligations.ClosedChannelStaysSilent : Prop :=
  ∀ (s t : State) (ms : List Move), s.phase = .idle → s.chOpen = false → s.presentsInit = false →
    (ms.all fun m => !m.presentsInit && !m.isReset) = true → runMoves ms s = .next t →
    t.phase = .idle ∧ t.chOpen = false ∧ t.txlog = s.txlog ∧ t.rxq = s.rxq ++ arrivals ms ∧
    t.txbuf = s.txbuf ∧ t.rxbuf = s.rxbuf ∧ (t.status = s.status ∨ t.status = 0xFF)

/-- 10_state.md R40, 93 U3: what the pins, the buffers and the timer hold in IDLE is not observable: two machines
that differ only there run alike at every port, `rxq` and `txlog`, but for the pins shown, and these agree wherever
ENV samples them. -/
def Obligations.IdleBuffersAreUnobservable : Prop :=
  ∀ (s t : State) (ms : List Move) (rx tx : Pin) (f g : Frame) (n : Nat), s.phase = .idle →
    s.cfgValid = false → runMoves ms s = .next t →
    ∃ t' : State,
      runMoves ms { s with rxPin := rx, txPin := tx, txbuf := f, rxbuf := g, tmo := n } = .next t' ∧
      { t'.outputs with cfgRxPin := t.rxPin, cfgTxPin := t.txPin } = t.outputs ∧
      t'.rxq = t.rxq ∧ t'.txlog = t.txlog ∧
      (t.cfgValid = true → t'.rxPin = t.rxPin ∧ t'.txPin = t.txPin)

/-! ## Whole exchanges -/

/-- 42_sequencer.md R154: the two levels agree. For an exchange, `w` and `k` count its TX-ACK and RX-BYTE steps, and
the state it ends in is the operation level's answer to a transport that answers `write` with `w` and `read` with
the first `k` bytes; the single-step operations are equal to theirs. -/
def Obligations.StepAndOperationLevelsAgree : Prop :=
  (∀ (s s1 t : State) (a : Answers) (ms : List Move), s.readyToRead → performMove (.engine a) s = .next s1 →
    (ms.all fun m => !m.isReset) = true → runToDone ms s1 = some t →
    countRun isTxAck ms s1 ≤ 9 ∧ countRun isRxByte ms s1 ≤ 9 ∧
    (countRun isTxAck ms s1 < 9 → countRun isRxByte ms s1 = 0) ∧
    t.view = (opReadCo2 (countRun isTxAck ms s1) (countRun isRxByte ms s1) (arrivals ms) s).view) ∧
  (∀ (s : State) (a : Answers), s.phase = .idle → s.opValid = true → s.op = 0 →
    ∃ t : State, performMove (.engine a) s = .next t ∧ t.view = (opInit s.opRxPin s.opTxPin a.opened s).view) ∧
  (∀ (s : State) (a : Answers), s.phase = .idle → s.opValid = true → s.op = 1 →
    ∃ t : State, performMove (.engine a) s = .next t ∧ t.view = (opFlush s).view) ∧
  (∀ (s : State) (a : Answers) (w k : Nat) (bytes : List Byte), s.phase = .idle → s.opValid = true → s.op = 2 →
    s.chOpen = false →
    ∃ t : State, performMove (.engine a) s = .next t ∧ t.view = (opReadCo2 w k bytes s).view)

/-- 60_exceptions.md R189: at the operation level one error is reported, the first found in the fixed order. -/
def Obligations.ErrorPrecedence : Prop :=
  ∀ (w k : Nat) (bytes : List Byte) (s : State),
    (s.chOpen = false → (opReadCo2 w k bytes s).status = 0xFF) ∧
    (s.chOpen = true → w < 9 → (opReadCo2 w k bytes s).status = 0xFE) ∧
    (s.chOpen = true → 9 ≤ w → k < 9 → (opReadCo2 w k bytes s).status = 0xFD) ∧
    (s.chOpen = true → 9 ≤ w → ∀ r : Frame, (readable bytes s).take 9 = r.toList →
      (opReadCo2 w 9 bytes s).status = codeByte (validate r 0x86).1 ∧
      (opReadCo2 w 9 bytes s).reading = (validate r 0x86).2)

/-- 41_host_operations.md R127: what each outcome of READCO2 has done to the transport. -/
def Obligations.OutcomeTellsTransportEffects : Prop :=
  (∀ (s s1 t : State) (a : Answers) (ms : List Move), s.readyToRead → performMove (.engine a) s = .next s1 →
    (ms.all fun m => !m.isReset) = true → runToDone ms s1 = some t →
    ∃ sent taken : List Byte,
      t.txlog = s.txlog ++ sent ∧ readable (arrivals ms) s = taken ++ t.rxq ∧ t.txbuf = commandFrameBytes ∧
      ((t.status = 0xFE ∧ sent.length ≤ 8 ∧ sent = commandFrameBytes.toList.take sent.length ∧ taken = [] ∧
          t.reading = 0 ∧ t.rdValid = false) ∨
        (t.status = 0xFD ∧ sent = commandFrameBytes.toList ∧ taken.length ≤ 8 ∧ t.reading = 0 ∧
          t.rdValid = false) ∨
        ((t.status = 0xFC ∨ t.status = 0xFB) ∧ sent = commandFrameBytes.toList ∧ taken.length = 9 ∧
          t.reading = 0 ∧ t.rdValid = false) ∨
        (t.status = 0x00 ∧ sent = commandFrameBytes.toList ∧ taken.length = 9 ∧
          t.reading = t.rxbuf[2] ++ t.rxbuf[3] ∧ t.rdValid = true))) ∧
  (∀ (s : State) (a : Answers), s.phase = .idle → s.opValid = true → s.op = 2 → s.chOpen = false →
    ∃ t : State, performMove (.engine a) s = .next t ∧ t.status = 0xFF ∧ t.txlog = s.txlog ∧ t.rxq = s.rxq ∧
      t.txbuf = s.txbuf ∧ t.reading = 0 ∧ t.rdValid = false)

/-- The source's round trip (10_state.md R44, 40_codec.md R108): under SensorAnswers(V), and given turns enough to
take and judge the frame, a READCO2 returns exactly `V` and has sent the command frame. That the premise counts ticks
from the ninth acknowledgement on is the model's choice (notes/assumptions/20.md). -/
def Obligations.SensorRoundTripReturnsValue : Prop :=
  ∀ (s : State) (a : Answers) (v : Ppm) (x4 x5 x6 x7 last : Byte) (sending early rest : List Move),
    s.readyToRead → SensorAnswers v x4 x5 x6 x7 s sending early last rest →
    10 ≤ (rest.filter Move.isTurn).length →
    ∃ (n : Nat) (t : State),
      runMoves ((.engine a :: (sending ++ early ++ .arrive last :: rest)).take n) s = .next t ∧
      t.done = true ∧ t.phase = .idle ∧ t.status = 0x00 ∧ t.reading = v ∧ t.rdValid = true ∧
      t.txlog = s.txlog ++ commandFrameBytes.toList ∧ t.rxq = []

/-- 42_sequencer.md R157: the steps an exchange takes, and that a successful one takes exactly twenty and fewer than
`READ_TIMEOUT_TICKS` counted ticks. -/
def Obligations.ExchangeStepCounts : Prop :=
  ∀ (s s1 t : State) (a : Answers) (ms : List Move), s.readyToRead → 1 ≤ s.cfg.readTimeoutTicks →
    performMove (.engine a) s = .next s1 → (ms.all fun m => !m.isReset) = true → runToDone ms s1 = some t →
    countRun isTxStep ms s1 ≤ 9 ∧ countRun isRxByte ms s1 ≤ 9 ∧
    countRun isRxTick ms s1 ≤ s.cfg.readTimeoutTicks ∧ countRun isCheck ms s1 ≤ 1 ∧
    countRun isEngineStep ms s1 =
      countRun isTxStep ms s1 + countRun isRxByte ms s1 + countRun isRxTick ms s1 + countRun isCheck ms s1 ∧
    (t.status = 0x00 →
      1 + countRun isEngineStep ms s1 = 20 + countRun isRxTick ms s1 ∧
      countRun isRxTick ms s1 < s.cfg.readTimeoutTicks)

/-- 42_sequencer.md R156, the bounded wait: while the timebase keeps ticking, RX ends within the bytes still to take
and the ticks still to count. -/
def Obligations.ReadEndsWithinItsBound : Prop :=
  ∀ (s : State) (ms : List Move), s.phase = .rx → s.idx.toNat ≤ 8 → (ms.all fun m => !m.isReset) = true →
    (9 - s.idx.toNat) + max 1 s.tmo ≤ (ms.filter Move.ticks).length →
    ∃ (n : Nat) (t : State), runMoves (ms.take n) s = .next t ∧ t.done = true ∧ t.phase = .idle ∧
      t.status ∈ ([0x00, 0xFD, 0xFC, 0xFB] : List Byte)

/-- 42_sequencer.md R148: with no byte waiting, the wait lasts exactly `tmo` counted ticks, one window, and then ends
with `E_READ`, the bytes taken kept. -/
def Obligations.WindowLastsItsTicks : Prop :=
  ∀ (s : State) (answers : List Answers) (more : List Move), s.phase = .rx → s.rxq = [] →
    1 ≤ answers.length → answers.length ≤ s.tmo → (answers.all fun a => a.tick) = true →
    s.script = answers.map .engine ++ more →
    ∃ t : State, Host.Core.run core answers.length s = .next t ∧
      t.rxbuf = s.rxbuf ∧ t.rxq = [] ∧ t.txlog = s.txlog ∧
      (answers.length < s.tmo → t.phase = .rx ∧ t.idx = s.idx ∧ t.tmo = s.tmo - answers.length ∧
        t.done = s.done) ∧
      (answers.length = s.tmo → t.phase = .idle ∧ t.idx = 0 ∧ t.tmo = 0 ∧ t.status = 0xFD ∧ t.reading = 0 ∧
        t.rdValid = false ∧ t.done = true)

/-- 20_memory.md R54, R55 with 70_reset_and_hazards.md R215: whatever nine bytes stand first in `rxq`, stale or not,
are taken and judged as the response, in exactly twenty steps; the bytes after them stay. -/
def Obligations.NextNineBytesAreTheResponse : Prop :=
  ∀ (s : State) (r : Frame) (after : List Byte) (accept : Answers) (acks turns : List Answers) (more : List Move),
    s.readyToRead → s.cfg.autoFlush = false → s.rxq = r.toList ++ after →
    acks.length = 9 → (acks.all fun a => a.txAck && !a.txNak) = true → turns.length = 10 →
    s.script = .engine accept :: (acks ++ turns).map .engine ++ more →
    ∃ t : State, Host.Core.run core 20 s = .next t ∧
      t.done = true ∧ t.phase = .idle ∧ t.status = codeByte (validate r 0x86).1 ∧
      t.reading = (validate r 0x86).2 ∧ (t.rdValid = true ↔ (validate r 0x86).1 = .ok) ∧
      t.rxbuf = r ∧ t.rxq = after ∧ t.txlog = s.txlog ++ commandFrameBytes.toList

/-- 20_memory.md R64: after a FLUSH on an open channel, `rxq` holds only bytes that arrived after the flush step. -/
def Obligations.FlushLeavesOnlyLaterBytes : Prop :=
  ∀ (s t u : State) (a : Answers) (ms : List Move), s.phase = .idle → s.chOpen = true → s.opValid = true →
    s.op = 1 → performMove (.engine a) s = .next t →
    (ms.all fun m => !m.isTurn && !m.isReset) = true → runMoves ms t = .next u →
    u.rxq = arrivals ms ∧ u.status = 0x00 ∧ u.done = true ∧ u.txlog = s.txlog ∧ u.txbuf = s.txbuf ∧
    u.rxbuf = s.rxbuf ∧ u.phase = .idle
end

