-- ==== Sys2Proof/Laws/Codec.lean ====
section
/-! SUPPORT. What the codec's functions can answer, and the parameters of 00_scope.md R5 they rest on. -/

namespace Sys2Proof.Machine

open Sys2Proof

/-- With the stated `CHK_FIRST` and `CHK_LAST` the sum is over bytes 1 to 7 (40_codec.md R100). -/
theorem sum7_eq (f : Frame) :
    sum7 f =
      f[1].toNat + f[2].toNat + f[3].toNat + f[4].toNat + f[5].toNat + f[6].toNat + f[7].toNat := by
  obtain ⟨⟨l⟩, h⟩ := f
  match l, h with
  | [_, _, _, _, _, _, _, _, _], _ => simp [sum7, Nat.add_assoc]

/-- The largest sum is 1785 (40_codec.md R100). -/
theorem sum7_le (f : Frame) : sum7 f ≤ 1785 := by
  rw [sum7_eq]
  have h (i : Fin 9) : f[i].toNat ≤ 255 := Nat.le_of_lt_succ f[i].isLt
  have h1 := h 1; have h2 := h 2; have h3 := h 3; have h4 := h 4
  have h5 := h 5; have h6 := h 6; have h7 := h 7
  simp only [Fin.getElem_fin] at *
  change f[1].toNat ≤ _ at h1; change f[2].toNat ≤ _ at h2; change f[3].toNat ≤ _ at h3
  change f[4].toNat ≤ _ at h4; change f[5].toNat ≤ _ at h5; change f[6].toNat ≤ _ at h6
  change f[7].toNat ≤ _ at h7
  omega

/-- The frame BUILD makes for READCO2 is the constant the decoder knows (30_encoding.md R74). -/
theorem commandFrame_eq : commandFrame = commandFrameBytes := by decide

/-- The command code the ENGINE sends stands at the index of the format's `CMD` field (30_encoding.md R71). -/
theorem commandFrame_cmd : commandFrame[Config.cmdPos] = Protocol.stated.cmdReadCo2 := by decide

/-- The five parameter bytes of the command frame are 0 (30_encoding.md R78). -/
theorem commandFrame_data :
    (commandFrame.toList.drop (Config.cmdPos + 1)).take Widths.stated.nData =
      List.replicate Widths.stated.nData 0 := by
  decide

/-- FRAMEOK as a proposition (40_codec.md R104). -/
theorem frameOk_iff (r : Frame) (cmd : Byte) : frameOk r cmd = true ↔ r[0] = 0xFF ∧ r[1] = cmd := by
  simp [frameOk]

/-- CHKOK as a proposition (40_codec.md R105). -/
theorem chkOk_iff (r : Frame) : chkOk r = true ↔ r[8] = checksum r := by
  simp [chkOk]

/-- Everything VALIDATE can answer (40_codec.md R107). -/
theorem validate_cases (r : Frame) (cmd : Byte) (p : Protocol := .stated) :
    (frameOk r cmd p = false ∧ validate r cmd p = (.reject, 0)) ∨
    (frameOk r cmd p = true ∧ chkOk r p = false ∧ validate r cmd p = (.chk, 0)) ∨
    (frameOk r cmd p = true ∧ chkOk r p = true ∧ validate r cmd p = (.ok, decodeReading r p)) := by
  cases hf : frameOk r cmd p <;> cases hc : chkOk r p <;> simp [validate, hf, hc]

/-! The stated status codes as bytes, two's complement (00_scope.md R5 and R6, 60_exceptions.md R180). -/

@[simp] theorem codeByte_ok : codeByte .ok = 0x00 := rfl
@[simp] theorem codeByte_noInit : codeByte .noInit = 0xFF := rfl
@[simp] theorem codeByte_write : codeByte .write = 0xFE := rfl
@[simp] theorem codeByte_read : codeByte .read = 0xFD := rfl
@[simp] theorem codeByte_reject : codeByte .reject = 0xFC := rfl
@[simp] theorem codeByte_chk : codeByte .chk = 0xFB := rfl

/-- The six status bytes are distinct (60_exceptions.md R180). -/
theorem codeByte_injective (c d : Code) (h : codeByte c = codeByte d) : c = d := by
  cases c <;> cases d <;> first | rfl | exact absurd h (by decide)

/-- Everything the operation decoder can answer (30_encoding.md R79, R80). -/
theorem decodeOp_cases (op : BitVec 2) (rx tx : Pin) :
    (op = 0 ∧ decodeOp op rx tx = .init rx tx) ∨ (op = 1 ∧ decodeOp op rx tx = .flush) ∨
    (op = 2 ∧ decodeOp op rx tx = .readCo2) ∨ (op = 3 ∧ decodeOp op rx tx = .reservedOp3) := by
  revert op
  have h (op : BitVec 2) : op = 0 ∨ op = 1 ∨ op = 2 ∨ op = 3 := by revert op; decide
  intro op
  rcases h op with rfl | rfl | rfl | rfl <;> simp [decodeOp]

/-- Everything the frame decoder can answer when it answers an instruction (30_encoding.md R74, R75). -/
theorem decodeFrame_ok (f : Frame) (i : Instr) (h : decodeFrame f = .ok i) :
    (f = commandFrameBytes ∧ i = .cfReadCo2) ∨
    (f ≠ commandFrameBytes ∧ f[0] = 0xFF ∧ f[1] = 0x86 ∧
      i = .rfReadCo2 f[2] f[3] f[4] f[5] f[6] f[7] f[8]) := by
  unfold decodeFrame at h
  rw [commandFrame_eq] at h
  split at h
  · exact .inl ⟨‹_›, by cases h; rfl⟩
  · split at h
    · rename_i hne hb
      exact .inr ⟨hne, hb.1, hb.2, by cases h; rfl⟩
    · split at h <;> cases h

end Sys2Proof.Machine
end

