-- ==== Sys2Proof/Machine/Instance.lean ====
section
/-! DEFINITION. The machine at any instance of the table of 00_scope.md R5: the table is its argument. The machine of
Machine/Core.lean is the one at `Parameters.platform` (Laws/Instance.lean proves it). -/

namespace Sys2Proof.Machine

open Sys2Proof

/-- `exec` under the constants `p`: every meaning of Machine/Dispatch.lean, given its argument. -/
def execAt (p : Protocol) (i : Instr) (s : State) : Host.Outcome State Fault Refusal :=
  match i with
  | .init rx tx => execInit rx tx s p
  | .flush => execFlush s p
  | .readCo2 => execReadCo2 s p
  | .reservedOp3 => execReservedOp3 s
  | .cfReadCo2 => execCfReadCo2 s p
  | .rfReadCo2 high low x4 x5 x6 x7 chk => execRfReadCo2 high low x4 x5 x6 x7 chk s p

/-- `performMove` under the constants `p`. -/
def performMoveAt (p : Protocol) (m : Move) (s : State) : Host.Outcome State Fault Refusal :=
  performMoveWith (engineTurnWith (execAt p) p) m s

/-- `step` under the constants `p`. -/
def stepAt (p : Protocol) (s : State) : Host.Outcome State Fault Refusal :=
  performMoveAt p s.nextMove s.advance

/-- `State.reset` on a platform with the choices `c` (10_state.md R42). -/
def State.resetAt (c : Config) : State :=
  { State.reset with chOpen := c.chPresentAtReset, cfg := c }

/-- The machine that the table `c` configures: the constants are the argument of its step, the platform's choices
stand in its state. Its widths are those of the types, as `Parameters.wf` says. -/
def machineAt (c : Parameters) : Host.Core :=
  { State := State, Fault := Fault, Refusal := Refusal, step := stepAt c.toProtocol
    reset := State.resetAt c.toConfig }

end Sys2Proof.Machine
end

