-- ==== Sys2Proof/Laws/Instance.lean ====
section
/-! SUPPORT. The machine is the instance of the table of 00_scope.md R5 at its stated values. -/

namespace Sys2Proof.Machine

open Sys2Proof

/-- With the stated constants, `execAt` is `exec`. -/
@[simp] theorem execAt_stated : execAt .stated = exec := by
  funext i s
  cases i <;> rfl

/-- With the stated constants, `performMoveAt` is `performMove`. -/
@[simp] theorem performMoveAt_stated : performMoveAt .stated = performMove := by
  funext m s
  unfold performMoveAt performMove
  rw [execAt_stated]
  rfl

/-- With the stated constants, `stepAt` is `step`. -/
@[simp] theorem stepAt_stated : stepAt .stated = step := by
  funext s
  unfold stepAt step
  rw [performMoveAt_stated]

/-- The machine at the table's own values is the machine of Machine/Core.lean. -/
theorem machineAt_platform : machineAt Parameters.platform = core := by
  unfold machineAt core
  congr 1

end Sys2Proof.Machine
end

