-- ==== Sys2Proof/Laws/State.lean ====
section
/-! SUPPORT. What each update of the state leaves in each field: one lemma per field and update. -/

namespace Sys2Proof.Machine

open Sys2Proof

variable (s : State) (p : Protocol)

@[simp] theorem State.chOpen_withResult (c : Code) (v : Ppm) (valid : Bool) : (s.withResult c v valid p).chOpen = s.chOpen := rfl
@[simp] theorem State.rxPin_withResult (c : Code) (v : Ppm) (valid : Bool) : (s.withResult c v valid p).rxPin = s.rxPin := rfl
@[simp] theorem State.txPin_withResult (c : Code) (v : Ppm) (valid : Bool) : (s.withResult c v valid p).txPin = s.txPin := rfl
@[simp] theorem State.phase_withResult (c : Code) (v : Ppm) (valid : Bool) : (s.withResult c v valid p).phase = s.phase := rfl
@[simp] theorem State.idx_withResult (c : Code) (v : Ppm) (valid : Bool) : (s.withResult c v valid p).idx = s.idx := rfl
@[simp] theorem State.txbuf_withResult (c : Code) (v : Ppm) (valid : Bool) : (s.withResult c v valid p).txbuf = s.txbuf := rfl
@[simp] theorem State.rxbuf_withResult (c : Code) (v : Ppm) (valid : Bool) : (s.withResult c v valid p).rxbuf = s.rxbuf := rfl
@[simp] theorem State.tmo_withResult (c : Code) (v : Ppm) (valid : Bool) : (s.withResult c v valid p).tmo = s.tmo := rfl
@[simp] theorem State.status_withResult (c : Code) (v : Ppm) (valid : Bool) : (s.withResult c v valid p).status = codeByte c p := rfl
@[simp] theorem State.reading_withResult (c : Code) (v : Ppm) (valid : Bool) : (s.withResult c v valid p).reading = v := rfl
@[simp] theorem State.rdValid_withResult (c : Code) (v : Ppm) (valid : Bool) : (s.withResult c v valid p).rdValid = valid := rfl
@[simp] theorem State.done_withResult (c : Code) (v : Ppm) (valid : Bool) : (s.withResult c v valid p).done = true := rfl
@[simp] theorem State.flushReq_withResult (c : Code) (v : Ppm) (valid : Bool) : (s.withResult c v valid p).flushReq = s.flushReq := rfl
@[simp] theorem State.cfgValid_withResult (c : Code) (v : Ppm) (valid : Bool) : (s.withResult c v valid p).cfgValid = s.cfgValid := rfl
@[simp] theorem State.opValid_withResult (c : Code) (v : Ppm) (valid : Bool) : (s.withResult c v valid p).opValid = s.opValid := rfl
@[simp] theorem State.op_withResult (c : Code) (v : Ppm) (valid : Bool) : (s.withResult c v valid p).op = s.op := rfl
@[simp] theorem State.opRxPin_withResult (c : Code) (v : Ppm) (valid : Bool) : (s.withResult c v valid p).opRxPin = s.opRxPin := rfl
@[simp] theorem State.opTxPin_withResult (c : Code) (v : Ppm) (valid : Bool) : (s.withResult c v valid p).opTxPin = s.opTxPin := rfl
@[simp] theorem State.txAck_withResult (c : Code) (v : Ppm) (valid : Bool) : (s.withResult c v valid p).txAck = s.txAck := rfl
@[simp] theorem State.txNak_withResult (c : Code) (v : Ppm) (valid : Bool) : (s.withResult c v valid p).txNak = s.txNak := rfl
@[simp] theorem State.tick_withResult (c : Code) (v : Ppm) (valid : Bool) : (s.withResult c v valid p).tick = s.tick := rfl
@[simp] theorem State.opened_withResult (c : Code) (v : Ppm) (valid : Bool) : (s.withResult c v valid p).opened = s.opened := rfl
@[simp] theorem State.rxq_withResult (c : Code) (v : Ppm) (valid : Bool) : (s.withResult c v valid p).rxq = s.rxq := rfl
@[simp] theorem State.txlog_withResult (c : Code) (v : Ppm) (valid : Bool) : (s.withResult c v valid p).txlog = s.txlog := rfl
@[simp] theorem State.cfg_withResult (c : Code) (v : Ppm) (valid : Bool) : (s.withResult c v valid p).cfg = s.cfg := rfl
@[simp] theorem State.script_withResult (c : Code) (v : Ppm) (valid : Bool) : (s.withResult c v valid p).script = s.script := rfl
@[simp] theorem State.drawn_withResult (c : Code) (v : Ppm) (valid : Bool) : (s.withResult c v valid p).drawn = s.drawn := rfl

@[simp] theorem State.chOpen_withoutResult : s.withoutResult.chOpen = s.chOpen := rfl
@[simp] theorem State.rxPin_withoutResult : s.withoutResult.rxPin = s.rxPin := rfl
@[simp] theorem State.txPin_withoutResult : s.withoutResult.txPin = s.txPin := rfl
@[simp] theorem State.phase_withoutResult : s.withoutResult.phase = s.phase := rfl
@[simp] theorem State.idx_withoutResult : s.withoutResult.idx = s.idx := rfl
@[simp] theorem State.txbuf_withoutResult : s.withoutResult.txbuf = s.txbuf := rfl
@[simp] theorem State.rxbuf_withoutResult : s.withoutResult.rxbuf = s.rxbuf := rfl
@[simp] theorem State.tmo_withoutResult : s.withoutResult.tmo = s.tmo := rfl
@[simp] theorem State.status_withoutResult : s.withoutResult.status = 0 := rfl
@[simp] theorem State.reading_withoutResult : s.withoutResult.reading = 0 := rfl
@[simp] theorem State.rdValid_withoutResult : s.withoutResult.rdValid = false := rfl
@[simp] theorem State.done_withoutResult : s.withoutResult.done = false := rfl
@[simp] theorem State.flushReq_withoutResult : s.withoutResult.flushReq = s.flushReq := rfl
@[simp] theorem State.cfgValid_withoutResult : s.withoutResult.cfgValid = s.cfgValid := rfl
@[simp] theorem State.opValid_withoutResult : s.withoutResult.opValid = s.opValid := rfl
@[simp] theorem State.op_withoutResult : s.withoutResult.op = s.op := rfl
@[simp] theorem State.opRxPin_withoutResult : s.withoutResult.opRxPin = s.opRxPin := rfl
@[simp] theorem State.opTxPin_withoutResult : s.withoutResult.opTxPin = s.opTxPin := rfl
@[simp] theorem State.txAck_withoutResult : s.withoutResult.txAck = s.txAck := rfl
@[simp] theorem State.txNak_withoutResult : s.withoutResult.txNak = s.txNak := rfl
@[simp] theorem State.tick_withoutResult : s.withoutResult.tick = s.tick := rfl
@[simp] theorem State.opened_withoutResult : s.withoutResult.opened = s.opened := rfl
@[simp] theorem State.rxq_withoutResult : s.withoutResult.rxq = s.rxq := rfl
@[simp] theorem State.txlog_withoutResult : s.withoutResult.txlog = s.txlog := rfl
@[simp] theorem State.cfg_withoutResult : s.withoutResult.cfg = s.cfg := rfl
@[simp] theorem State.script_withoutResult : s.withoutResult.script = s.script := rfl
@[simp] theorem State.drawn_withoutResult : s.withoutResult.drawn = s.drawn := rfl

@[simp] theorem State.chOpen_setOpen : s.setOpen.chOpen = true := rfl
@[simp] theorem State.rxPin_setOpen : s.setOpen.rxPin = s.rxPin := rfl
@[simp] theorem State.txPin_setOpen : s.setOpen.txPin = s.txPin := rfl
@[simp] theorem State.phase_setOpen : s.setOpen.phase = s.phase := rfl
@[simp] theorem State.idx_setOpen : s.setOpen.idx = s.idx := rfl
@[simp] theorem State.txbuf_setOpen : s.setOpen.txbuf = s.txbuf := rfl
@[simp] theorem State.rxbuf_setOpen : s.setOpen.rxbuf = s.rxbuf := rfl
@[simp] theorem State.tmo_setOpen : s.setOpen.tmo = s.tmo := rfl
@[simp] theorem State.status_setOpen : s.setOpen.status = s.status := rfl
@[simp] theorem State.reading_setOpen : s.setOpen.reading = s.reading := rfl
@[simp] theorem State.rdValid_setOpen : s.setOpen.rdValid = s.rdValid := rfl
@[simp] theorem State.done_setOpen : s.setOpen.done = s.done := rfl
@[simp] theorem State.flushReq_setOpen : s.setOpen.flushReq = s.flushReq := rfl
@[simp] theorem State.cfgValid_setOpen : s.setOpen.cfgValid = s.cfgValid := rfl
@[simp] theorem State.opValid_setOpen : s.setOpen.opValid = s.opValid := rfl
@[simp] theorem State.op_setOpen : s.setOpen.op = s.op := rfl
@[simp] theorem State.opRxPin_setOpen : s.setOpen.opRxPin = s.opRxPin := rfl
@[simp] theorem State.opTxPin_setOpen : s.setOpen.opTxPin = s.opTxPin := rfl
@[simp] theorem State.txAck_setOpen : s.setOpen.txAck = s.txAck := rfl
@[simp] theorem State.txNak_setOpen : s.setOpen.txNak = s.txNak := rfl
@[simp] theorem State.tick_setOpen : s.setOpen.tick = s.tick := rfl
@[simp] theorem State.opened_setOpen : s.setOpen.opened = s.opened := rfl
@[simp] theorem State.rxq_setOpen : s.setOpen.rxq = s.rxq := rfl
@[simp] theorem State.txlog_setOpen : s.setOpen.txlog = s.txlog := rfl
@[simp] theorem State.cfg_setOpen : s.setOpen.cfg = s.cfg := rfl
@[simp] theorem State.script_setOpen : s.setOpen.script = s.script := rfl
@[simp] theorem State.drawn_setOpen : s.setOpen.drawn = s.drawn := rfl

@[simp] theorem State.chOpen_lowerPulses : s.lowerPulses.chOpen = s.chOpen := rfl
@[simp] theorem State.rxPin_lowerPulses : s.lowerPulses.rxPin = s.rxPin := rfl
@[simp] theorem State.txPin_lowerPulses : s.lowerPulses.txPin = s.txPin := rfl
@[simp] theorem State.phase_lowerPulses : s.lowerPulses.phase = s.phase := rfl
@[simp] theorem State.idx_lowerPulses : s.lowerPulses.idx = s.idx := rfl
@[simp] theorem State.txbuf_lowerPulses : s.lowerPulses.txbuf = s.txbuf := rfl
@[simp] theorem State.rxbuf_lowerPulses : s.lowerPulses.rxbuf = s.rxbuf := rfl
@[simp] theorem State.tmo_lowerPulses : s.lowerPulses.tmo = s.tmo := rfl
@[simp] theorem State.status_lowerPulses : s.lowerPulses.status = s.status := rfl
@[simp] theorem State.reading_lowerPulses : s.lowerPulses.reading = s.reading := rfl
@[simp] theorem State.rdValid_lowerPulses : s.lowerPulses.rdValid = s.rdValid := rfl
@[simp] theorem State.done_lowerPulses : s.lowerPulses.done = s.done := rfl
@[simp] theorem State.flushReq_lowerPulses : s.lowerPulses.flushReq = false := rfl
@[simp] theorem State.cfgValid_lowerPulses : s.lowerPulses.cfgValid = false := rfl
@[simp] theorem State.opValid_lowerPulses : s.lowerPulses.opValid = s.opValid := rfl
@[simp] theorem State.op_lowerPulses : s.lowerPulses.op = s.op := rfl
@[simp] theorem State.opRxPin_lowerPulses : s.lowerPulses.opRxPin = s.opRxPin := rfl
@[simp] theorem State.opTxPin_lowerPulses : s.lowerPulses.opTxPin = s.opTxPin := rfl
@[simp] theorem State.txAck_lowerPulses : s.lowerPulses.txAck = s.txAck := rfl
@[simp] theorem State.txNak_lowerPulses : s.lowerPulses.txNak = s.txNak := rfl
@[simp] theorem State.tick_lowerPulses : s.lowerPulses.tick = s.tick := rfl
@[simp] theorem State.opened_lowerPulses : s.lowerPulses.opened = s.opened := rfl
@[simp] theorem State.rxq_lowerPulses : s.lowerPulses.rxq = s.rxq := rfl
@[simp] theorem State.txlog_lowerPulses : s.lowerPulses.txlog = s.txlog := rfl
@[simp] theorem State.cfg_lowerPulses : s.lowerPulses.cfg = s.cfg := rfl
@[simp] theorem State.script_lowerPulses : s.lowerPulses.script = s.script := rfl
@[simp] theorem State.drawn_lowerPulses : s.lowerPulses.drawn = s.drawn := rfl

@[simp] theorem State.chOpen_complete (c : Code) (v : Ppm) : (s.complete c v p).chOpen = s.chOpen := rfl
@[simp] theorem State.rxPin_complete (c : Code) (v : Ppm) : (s.complete c v p).rxPin = s.rxPin := rfl
@[simp] theorem State.txPin_complete (c : Code) (v : Ppm) : (s.complete c v p).txPin = s.txPin := rfl
@[simp] theorem State.phase_complete (c : Code) (v : Ppm) : (s.complete c v p).phase = .idle := rfl
@[simp] theorem State.idx_complete (c : Code) (v : Ppm) : (s.complete c v p).idx = 0 := rfl
@[simp] theorem State.txbuf_complete (c : Code) (v : Ppm) : (s.complete c v p).txbuf = s.txbuf := rfl
@[simp] theorem State.rxbuf_complete (c : Code) (v : Ppm) : (s.complete c v p).rxbuf = s.rxbuf := rfl
@[simp] theorem State.tmo_complete (c : Code) (v : Ppm) : (s.complete c v p).tmo = s.tmo := rfl
@[simp] theorem State.status_complete (c : Code) (v : Ppm) : (s.complete c v p).status = codeByte c p := rfl
@[simp] theorem State.reading_complete (c : Code) (v : Ppm) : (s.complete c v p).reading = v := rfl
@[simp] theorem State.rdValid_complete (c : Code) (v : Ppm) : (s.complete c v p).rdValid = false := rfl
@[simp] theorem State.done_complete (c : Code) (v : Ppm) : (s.complete c v p).done = true := rfl
@[simp] theorem State.flushReq_complete (c : Code) (v : Ppm) : (s.complete c v p).flushReq = s.flushReq := rfl
@[simp] theorem State.cfgValid_complete (c : Code) (v : Ppm) : (s.complete c v p).cfgValid = s.cfgValid := rfl
@[simp] theorem State.opValid_complete (c : Code) (v : Ppm) : (s.complete c v p).opValid = s.opValid := rfl
@[simp] theorem State.op_complete (c : Code) (v : Ppm) : (s.complete c v p).op = s.op := rfl
@[simp] theorem State.opRxPin_complete (c : Code) (v : Ppm) : (s.complete c v p).opRxPin = s.opRxPin := rfl
@[simp] theorem State.opTxPin_complete (c : Code) (v : Ppm) : (s.complete c v p).opTxPin = s.opTxPin := rfl
@[simp] theorem State.txAck_complete (c : Code) (v : Ppm) : (s.complete c v p).txAck = s.txAck := rfl
@[simp] theorem State.txNak_complete (c : Code) (v : Ppm) : (s.complete c v p).txNak = s.txNak := rfl
@[simp] theorem State.tick_complete (c : Code) (v : Ppm) : (s.complete c v p).tick = s.tick := rfl
@[simp] theorem State.opened_complete (c : Code) (v : Ppm) : (s.complete c v p).opened = s.opened := rfl
@[simp] theorem State.rxq_complete (c : Code) (v : Ppm) : (s.complete c v p).rxq = s.rxq := rfl
@[simp] theorem State.txlog_complete (c : Code) (v : Ppm) : (s.complete c v p).txlog = s.txlog := rfl
@[simp] theorem State.cfg_complete (c : Code) (v : Ppm) : (s.complete c v p).cfg = s.cfg := rfl
@[simp] theorem State.script_complete (c : Code) (v : Ppm) : (s.complete c v p).script = s.script := rfl
@[simp] theorem State.drawn_complete (c : Code) (v : Ppm) : (s.complete c v p).drawn = s.drawn := rfl

@[simp] theorem State.chOpen_completeReading (v : Ppm) : (s.completeReading v p).chOpen = s.chOpen := rfl
@[simp] theorem State.rxPin_completeReading (v : Ppm) : (s.completeReading v p).rxPin = s.rxPin := rfl
@[simp] theorem State.txPin_completeReading (v : Ppm) : (s.completeReading v p).txPin = s.txPin := rfl
@[simp] theorem State.phase_completeReading (v : Ppm) : (s.completeReading v p).phase = .idle := rfl
@[simp] theorem State.idx_completeReading (v : Ppm) : (s.completeReading v p).idx = 0 := rfl
@[simp] theorem State.txbuf_completeReading (v : Ppm) : (s.completeReading v p).txbuf = s.txbuf := rfl
@[simp] theorem State.rxbuf_completeReading (v : Ppm) : (s.completeReading v p).rxbuf = s.rxbuf := rfl
@[simp] theorem State.tmo_completeReading (v : Ppm) : (s.completeReading v p).tmo = s.tmo := rfl
@[simp] theorem State.status_completeReading (v : Ppm) : (s.completeReading v p).status = codeByte .ok p := rfl
@[simp] theorem State.reading_completeReading (v : Ppm) : (s.completeReading v p).reading = v := rfl
@[simp] theorem State.rdValid_completeReading (v : Ppm) : (s.completeReading v p).rdValid = true := rfl
@[simp] theorem State.done_completeReading (v : Ppm) : (s.completeReading v p).done = true := rfl
@[simp] theorem State.flushReq_completeReading (v : Ppm) : (s.completeReading v p).flushReq = s.flushReq := rfl
@[simp] theorem State.cfgValid_completeReading (v : Ppm) : (s.completeReading v p).cfgValid = s.cfgValid := rfl
@[simp] theorem State.opValid_completeReading (v : Ppm) : (s.completeReading v p).opValid = s.opValid := rfl
@[simp] theorem State.op_completeReading (v : Ppm) : (s.completeReading v p).op = s.op := rfl
@[simp] theorem State.opRxPin_completeReading (v : Ppm) : (s.completeReading v p).opRxPin = s.opRxPin := rfl
@[simp] theorem State.opTxPin_completeReading (v : Ppm) : (s.completeReading v p).opTxPin = s.opTxPin := rfl
@[simp] theorem State.txAck_completeReading (v : Ppm) : (s.completeReading v p).txAck = s.txAck := rfl
@[simp] theorem State.txNak_completeReading (v : Ppm) : (s.completeReading v p).txNak = s.txNak := rfl
@[simp] theorem State.tick_completeReading (v : Ppm) : (s.completeReading v p).tick = s.tick := rfl
@[simp] theorem State.opened_completeReading (v : Ppm) : (s.completeReading v p).opened = s.opened := rfl
@[simp] theorem State.rxq_completeReading (v : Ppm) : (s.completeReading v p).rxq = s.rxq := rfl
@[simp] theorem State.txlog_completeReading (v : Ppm) : (s.completeReading v p).txlog = s.txlog := rfl
@[simp] theorem State.cfg_completeReading (v : Ppm) : (s.completeReading v p).cfg = s.cfg := rfl
@[simp] theorem State.script_completeReading (v : Ppm) : (s.completeReading v p).script = s.script := rfl
@[simp] theorem State.drawn_completeReading (v : Ppm) : (s.completeReading v p).drawn = s.drawn := rfl

@[simp] theorem State.chOpen_txWrite (b : Byte) : (s.txWrite b).chOpen = s.chOpen := rfl
@[simp] theorem State.rxPin_txWrite (b : Byte) : (s.txWrite b).rxPin = s.rxPin := rfl
@[simp] theorem State.txPin_txWrite (b : Byte) : (s.txWrite b).txPin = s.txPin := rfl
@[simp] theorem State.phase_txWrite (b : Byte) : (s.txWrite b).phase = s.phase := rfl
@[simp] theorem State.idx_txWrite (b : Byte) : (s.txWrite b).idx = s.idx := rfl
@[simp] theorem State.txbuf_txWrite (b : Byte) : (s.txWrite b).txbuf = s.txbuf := rfl
@[simp] theorem State.rxbuf_txWrite (b : Byte) : (s.txWrite b).rxbuf = s.rxbuf := rfl
@[simp] theorem State.tmo_txWrite (b : Byte) : (s.txWrite b).tmo = s.tmo := rfl
@[simp] theorem State.status_txWrite (b : Byte) : (s.txWrite b).status = s.status := rfl
@[simp] theorem State.reading_txWrite (b : Byte) : (s.txWrite b).reading = s.reading := rfl
@[simp] theorem State.rdValid_txWrite (b : Byte) : (s.txWrite b).rdValid = s.rdValid := rfl
@[simp] theorem State.done_txWrite (b : Byte) : (s.txWrite b).done = s.done := rfl
@[simp] theorem State.flushReq_txWrite (b : Byte) : (s.txWrite b).flushReq = s.flushReq := rfl
@[simp] theorem State.cfgValid_txWrite (b : Byte) : (s.txWrite b).cfgValid = s.cfgValid := rfl
@[simp] theorem State.opValid_txWrite (b : Byte) : (s.txWrite b).opValid = s.opValid := rfl
@[simp] theorem State.op_txWrite (b : Byte) : (s.txWrite b).op = s.op := rfl
@[simp] theorem State.opRxPin_txWrite (b : Byte) : (s.txWrite b).opRxPin = s.opRxPin := rfl
@[simp] theorem State.opTxPin_txWrite (b : Byte) : (s.txWrite b).opTxPin = s.opTxPin := rfl
@[simp] theorem State.txAck_txWrite (b : Byte) : (s.txWrite b).txAck = s.txAck := rfl
@[simp] theorem State.txNak_txWrite (b : Byte) : (s.txWrite b).txNak = s.txNak := rfl
@[simp] theorem State.tick_txWrite (b : Byte) : (s.txWrite b).tick = s.tick := rfl
@[simp] theorem State.opened_txWrite (b : Byte) : (s.txWrite b).opened = s.opened := rfl
@[simp] theorem State.rxq_txWrite (b : Byte) : (s.txWrite b).rxq = s.rxq := rfl
@[simp] theorem State.txlog_txWrite (b : Byte) : (s.txWrite b).txlog = s.txlog ++ [b] := rfl
@[simp] theorem State.cfg_txWrite (b : Byte) : (s.txWrite b).cfg = s.cfg := rfl
@[simp] theorem State.script_txWrite (b : Byte) : (s.txWrite b).script = s.script := rfl
@[simp] theorem State.drawn_txWrite (b : Byte) : (s.txWrite b).drawn = s.drawn := rfl

@[simp] theorem State.chOpen_rxFlush : s.rxFlush.chOpen = s.chOpen := rfl
@[simp] theorem State.rxPin_rxFlush : s.rxFlush.rxPin = s.rxPin := rfl
@[simp] theorem State.txPin_rxFlush : s.rxFlush.txPin = s.txPin := rfl
@[simp] theorem State.phase_rxFlush : s.rxFlush.phase = s.phase := rfl
@[simp] theorem State.idx_rxFlush : s.rxFlush.idx = s.idx := rfl
@[simp] theorem State.txbuf_rxFlush : s.rxFlush.txbuf = s.txbuf := rfl
@[simp] theorem State.rxbuf_rxFlush : s.rxFlush.rxbuf = s.rxbuf := rfl
@[simp] theorem State.tmo_rxFlush : s.rxFlush.tmo = s.tmo := rfl
@[simp] theorem State.status_rxFlush : s.rxFlush.status = s.status := rfl
@[simp] theorem State.reading_rxFlush : s.rxFlush.reading = s.reading := rfl
@[simp] theorem State.rdValid_rxFlush : s.rxFlush.rdValid = s.rdValid := rfl
@[simp] theorem State.done_rxFlush : s.rxFlush.done = s.done := rfl
@[simp] theorem State.flushReq_rxFlush : s.rxFlush.flushReq = true := rfl
@[simp] theorem State.cfgValid_rxFlush : s.rxFlush.cfgValid = s.cfgValid := rfl
@[simp] theorem State.opValid_rxFlush : s.rxFlush.opValid = s.opValid := rfl
@[simp] theorem State.op_rxFlush : s.rxFlush.op = s.op := rfl
@[simp] theorem State.opRxPin_rxFlush : s.rxFlush.opRxPin = s.opRxPin := rfl
@[simp] theorem State.opTxPin_rxFlush : s.rxFlush.opTxPin = s.opTxPin := rfl
@[simp] theorem State.txAck_rxFlush : s.rxFlush.txAck = s.txAck := rfl
@[simp] theorem State.txNak_rxFlush : s.rxFlush.txNak = s.txNak := rfl
@[simp] theorem State.tick_rxFlush : s.rxFlush.tick = s.tick := rfl
@[simp] theorem State.opened_rxFlush : s.rxFlush.opened = s.opened := rfl
@[simp] theorem State.rxq_rxFlush : s.rxFlush.rxq = [] := rfl
@[simp] theorem State.txlog_rxFlush : s.rxFlush.txlog = s.txlog := rfl
@[simp] theorem State.cfg_rxFlush : s.rxFlush.cfg = s.cfg := rfl
@[simp] theorem State.script_rxFlush : s.rxFlush.script = s.script := rfl
@[simp] theorem State.drawn_rxFlush : s.rxFlush.drawn = s.drawn := rfl

@[simp] theorem State.chOpen_openChannel (rx tx : Pin) : (s.openChannel rx tx).chOpen = true := rfl
@[simp] theorem State.rxPin_openChannel (rx tx : Pin) : (s.openChannel rx tx).rxPin = rx := rfl
@[simp] theorem State.txPin_openChannel (rx tx : Pin) : (s.openChannel rx tx).txPin = tx := rfl
@[simp] theorem State.phase_openChannel (rx tx : Pin) : (s.openChannel rx tx).phase = s.phase := rfl
@[simp] theorem State.idx_openChannel (rx tx : Pin) : (s.openChannel rx tx).idx = s.idx := rfl
@[simp] theorem State.txbuf_openChannel (rx tx : Pin) : (s.openChannel rx tx).txbuf = s.txbuf := rfl
@[simp] theorem State.rxbuf_openChannel (rx tx : Pin) : (s.openChannel rx tx).rxbuf = s.rxbuf := rfl
@[simp] theorem State.tmo_openChannel (rx tx : Pin) : (s.openChannel rx tx).tmo = s.tmo := rfl
@[simp] theorem State.status_openChannel (rx tx : Pin) : (s.openChannel rx tx).status = s.status := rfl
@[simp] theorem State.reading_openChannel (rx tx : Pin) : (s.openChannel rx tx).reading = s.reading := rfl
@[simp] theorem State.rdValid_openChannel (rx tx : Pin) : (s.openChannel rx tx).rdValid = s.rdValid := rfl
@[simp] theorem State.done_openChannel (rx tx : Pin) : (s.openChannel rx tx).done = s.done := rfl
@[simp] theorem State.flushReq_openChannel (rx tx : Pin) : (s.openChannel rx tx).flushReq = s.flushReq := rfl
@[simp] theorem State.cfgValid_openChannel (rx tx : Pin) : (s.openChannel rx tx).cfgValid = true := rfl
@[simp] theorem State.opValid_openChannel (rx tx : Pin) : (s.openChannel rx tx).opValid = s.opValid := rfl
@[simp] theorem State.op_openChannel (rx tx : Pin) : (s.openChannel rx tx).op = s.op := rfl
@[simp] theorem State.opRxPin_openChannel (rx tx : Pin) : (s.openChannel rx tx).opRxPin = s.opRxPin := rfl
@[simp] theorem State.opTxPin_openChannel (rx tx : Pin) : (s.openChannel rx tx).opTxPin = s.opTxPin := rfl
@[simp] theorem State.txAck_openChannel (rx tx : Pin) : (s.openChannel rx tx).txAck = s.txAck := rfl
@[simp] theorem State.txNak_openChannel (rx tx : Pin) : (s.openChannel rx tx).txNak = s.txNak := rfl
@[simp] theorem State.tick_openChannel (rx tx : Pin) : (s.openChannel rx tx).tick = s.tick := rfl
@[simp] theorem State.opened_openChannel (rx tx : Pin) : (s.openChannel rx tx).opened = s.opened := rfl
@[simp] theorem State.rxq_openChannel (rx tx : Pin) : (s.openChannel rx tx).rxq = s.opened := rfl
@[simp] theorem State.txlog_openChannel (rx tx : Pin) : (s.openChannel rx tx).txlog = s.txlog := rfl
@[simp] theorem State.cfg_openChannel (rx tx : Pin) : (s.openChannel rx tx).cfg = s.cfg := rfl
@[simp] theorem State.script_openChannel (rx tx : Pin) : (s.openChannel rx tx).script = s.script := rfl
@[simp] theorem State.drawn_openChannel (rx tx : Pin) : (s.openChannel rx tx).drawn = s.drawn := rfl

@[simp] theorem State.chOpen_present (v : Bool) (o : BitVec 2) (rx tx : Pin) : (s.present v o rx tx).chOpen = s.chOpen := rfl
@[simp] theorem State.rxPin_present (v : Bool) (o : BitVec 2) (rx tx : Pin) : (s.present v o rx tx).rxPin = s.rxPin := rfl
@[simp] theorem State.txPin_present (v : Bool) (o : BitVec 2) (rx tx : Pin) : (s.present v o rx tx).txPin = s.txPin := rfl
@[simp] theorem State.phase_present (v : Bool) (o : BitVec 2) (rx tx : Pin) : (s.present v o rx tx).phase = s.phase := rfl
@[simp] theorem State.idx_present (v : Bool) (o : BitVec 2) (rx tx : Pin) : (s.present v o rx tx).idx = s.idx := rfl
@[simp] theorem State.txbuf_present (v : Bool) (o : BitVec 2) (rx tx : Pin) : (s.present v o rx tx).txbuf = s.txbuf := rfl
@[simp] theorem State.rxbuf_present (v : Bool) (o : BitVec 2) (rx tx : Pin) : (s.present v o rx tx).rxbuf = s.rxbuf := rfl
@[simp] theorem State.tmo_present (v : Bool) (o : BitVec 2) (rx tx : Pin) : (s.present v o rx tx).tmo = s.tmo := rfl
@[simp] theorem State.status_present (v : Bool) (o : BitVec 2) (rx tx : Pin) : (s.present v o rx tx).status = s.status := rfl
@[simp] theorem State.reading_present (v : Bool) (o : BitVec 2) (rx tx : Pin) : (s.present v o rx tx).reading = s.reading := rfl
@[simp] theorem State.rdValid_present (v : Bool) (o : BitVec 2) (rx tx : Pin) : (s.present v o rx tx).rdValid = s.rdValid := rfl
@[simp] theorem State.done_present (v : Bool) (o : BitVec 2) (rx tx : Pin) : (s.present v o rx tx).done = s.done := rfl
@[simp] theorem State.flushReq_present (v : Bool) (o : BitVec 2) (rx tx : Pin) : (s.present v o rx tx).flushReq = false := rfl
@[simp] theorem State.cfgValid_present (v : Bool) (o : BitVec 2) (rx tx : Pin) : (s.present v o rx tx).cfgValid = false := rfl
@[simp] theorem State.opValid_present (v : Bool) (o : BitVec 2) (rx tx : Pin) : (s.present v o rx tx).opValid = v := rfl
@[simp] theorem State.op_present (v : Bool) (o : BitVec 2) (rx tx : Pin) : (s.present v o rx tx).op = o := rfl
@[simp] theorem State.opRxPin_present (v : Bool) (o : BitVec 2) (rx tx : Pin) : (s.present v o rx tx).opRxPin = s.pinWires rx := rfl
@[simp] theorem State.opTxPin_present (v : Bool) (o : BitVec 2) (rx tx : Pin) : (s.present v o rx tx).opTxPin = s.pinWires tx := rfl
@[simp] theorem State.txAck_present (v : Bool) (o : BitVec 2) (rx tx : Pin) : (s.present v o rx tx).txAck = s.txAck := rfl
@[simp] theorem State.txNak_present (v : Bool) (o : BitVec 2) (rx tx : Pin) : (s.present v o rx tx).txNak = s.txNak := rfl
@[simp] theorem State.tick_present (v : Bool) (o : BitVec 2) (rx tx : Pin) : (s.present v o rx tx).tick = s.tick := rfl
@[simp] theorem State.opened_present (v : Bool) (o : BitVec 2) (rx tx : Pin) : (s.present v o rx tx).opened = s.opened := rfl
@[simp] theorem State.rxq_present (v : Bool) (o : BitVec 2) (rx tx : Pin) : (s.present v o rx tx).rxq = s.rxq := rfl
@[simp] theorem State.txlog_present (v : Bool) (o : BitVec 2) (rx tx : Pin) : (s.present v o rx tx).txlog = s.txlog := rfl
@[simp] theorem State.cfg_present (v : Bool) (o : BitVec 2) (rx tx : Pin) : (s.present v o rx tx).cfg = s.cfg := rfl
@[simp] theorem State.script_present (v : Bool) (o : BitVec 2) (rx tx : Pin) : (s.present v o rx tx).script = s.script := rfl
@[simp] theorem State.drawn_present (v : Bool) (o : BitVec 2) (rx tx : Pin) : (s.present v o rx tx).drawn = s.drawn := rfl

@[simp] theorem State.chOpen_sample (a : Answers) : (s.sample a).chOpen = s.chOpen := rfl
@[simp] theorem State.rxPin_sample (a : Answers) : (s.sample a).rxPin = s.rxPin := rfl
@[simp] theorem State.txPin_sample (a : Answers) : (s.sample a).txPin = s.txPin := rfl
@[simp] theorem State.phase_sample (a : Answers) : (s.sample a).phase = s.phase := rfl
@[simp] theorem State.idx_sample (a : Answers) : (s.sample a).idx = s.idx := rfl
@[simp] theorem State.txbuf_sample (a : Answers) : (s.sample a).txbuf = s.txbuf := rfl
@[simp] theorem State.rxbuf_sample (a : Answers) : (s.sample a).rxbuf = s.rxbuf := rfl
@[simp] theorem State.tmo_sample (a : Answers) : (s.sample a).tmo = s.tmo := rfl
@[simp] theorem State.status_sample (a : Answers) : (s.sample a).status = s.status := rfl
@[simp] theorem State.reading_sample (a : Answers) : (s.sample a).reading = s.reading := rfl
@[simp] theorem State.rdValid_sample (a : Answers) : (s.sample a).rdValid = s.rdValid := rfl
@[simp] theorem State.done_sample (a : Answers) : (s.sample a).done = s.done := rfl
@[simp] theorem State.flushReq_sample (a : Answers) : (s.sample a).flushReq = false := rfl
@[simp] theorem State.cfgValid_sample (a : Answers) : (s.sample a).cfgValid = false := rfl
@[simp] theorem State.opValid_sample (a : Answers) : (s.sample a).opValid = s.opValid := rfl
@[simp] theorem State.op_sample (a : Answers) : (s.sample a).op = s.op := rfl
@[simp] theorem State.opRxPin_sample (a : Answers) : (s.sample a).opRxPin = s.opRxPin := rfl
@[simp] theorem State.opTxPin_sample (a : Answers) : (s.sample a).opTxPin = s.opTxPin := rfl
@[simp] theorem State.txAck_sample (a : Answers) : (s.sample a).txAck = a.txAck := rfl
@[simp] theorem State.txNak_sample (a : Answers) : (s.sample a).txNak = a.txNak := rfl
@[simp] theorem State.tick_sample (a : Answers) : (s.sample a).tick = a.tick := rfl
@[simp] theorem State.opened_sample (a : Answers) : (s.sample a).opened = a.opened := rfl
@[simp] theorem State.rxq_sample (a : Answers) : (s.sample a).rxq = s.rxq := rfl
@[simp] theorem State.txlog_sample (a : Answers) : (s.sample a).txlog = s.txlog := rfl
@[simp] theorem State.cfg_sample (a : Answers) : (s.sample a).cfg = s.cfg := rfl
@[simp] theorem State.script_sample (a : Answers) : (s.sample a).script = s.script := rfl
@[simp] theorem State.drawn_sample (a : Answers) : (s.sample a).drawn = s.drawn := rfl

@[simp] theorem State.chOpen_arrived (b : Byte) : (s.arrived b).chOpen = s.chOpen := rfl
@[simp] theorem State.rxPin_arrived (b : Byte) : (s.arrived b).rxPin = s.rxPin := rfl
@[simp] theorem State.txPin_arrived (b : Byte) : (s.arrived b).txPin = s.txPin := rfl
@[simp] theorem State.phase_arrived (b : Byte) : (s.arrived b).phase = s.phase := rfl
@[simp] theorem State.idx_arrived (b : Byte) : (s.arrived b).idx = s.idx := rfl
@[simp] theorem State.txbuf_arrived (b : Byte) : (s.arrived b).txbuf = s.txbuf := rfl
@[simp] theorem State.rxbuf_arrived (b : Byte) : (s.arrived b).rxbuf = s.rxbuf := rfl
@[simp] theorem State.tmo_arrived (b : Byte) : (s.arrived b).tmo = s.tmo := rfl
@[simp] theorem State.status_arrived (b : Byte) : (s.arrived b).status = s.status := rfl
@[simp] theorem State.reading_arrived (b : Byte) : (s.arrived b).reading = s.reading := rfl
@[simp] theorem State.rdValid_arrived (b : Byte) : (s.arrived b).rdValid = s.rdValid := rfl
@[simp] theorem State.done_arrived (b : Byte) : (s.arrived b).done = s.done := rfl
@[simp] theorem State.flushReq_arrived (b : Byte) : (s.arrived b).flushReq = false := rfl
@[simp] theorem State.cfgValid_arrived (b : Byte) : (s.arrived b).cfgValid = false := rfl
@[simp] theorem State.opValid_arrived (b : Byte) : (s.arrived b).opValid = s.opValid := rfl
@[simp] theorem State.op_arrived (b : Byte) : (s.arrived b).op = s.op := rfl
@[simp] theorem State.opRxPin_arrived (b : Byte) : (s.arrived b).opRxPin = s.opRxPin := rfl
@[simp] theorem State.opTxPin_arrived (b : Byte) : (s.arrived b).opTxPin = s.opTxPin := rfl
@[simp] theorem State.txAck_arrived (b : Byte) : (s.arrived b).txAck = s.txAck := rfl
@[simp] theorem State.txNak_arrived (b : Byte) : (s.arrived b).txNak = s.txNak := rfl
@[simp] theorem State.tick_arrived (b : Byte) : (s.arrived b).tick = s.tick := rfl
@[simp] theorem State.opened_arrived (b : Byte) : (s.arrived b).opened = s.opened := rfl
@[simp] theorem State.rxq_arrived (b : Byte) : (s.arrived b).rxq = s.rxq ++ [b] := rfl
@[simp] theorem State.txlog_arrived (b : Byte) : (s.arrived b).txlog = s.txlog := rfl
@[simp] theorem State.cfg_arrived (b : Byte) : (s.arrived b).cfg = s.cfg := rfl
@[simp] theorem State.script_arrived (b : Byte) : (s.arrived b).script = s.script := rfl
@[simp] theorem State.drawn_arrived (b : Byte) : (s.arrived b).drawn = s.drawn := rfl

@[simp] theorem State.chOpen_engineReset (q : List Byte) : (s.engineReset q).chOpen = s.cfg.chPresentAtReset := rfl
@[simp] theorem State.rxPin_engineReset (q : List Byte) : (s.engineReset q).rxPin = unwrittenPin := rfl
@[simp] theorem State.txPin_engineReset (q : List Byte) : (s.engineReset q).txPin = unwrittenPin := rfl
@[simp] theorem State.phase_engineReset (q : List Byte) : (s.engineReset q).phase = .idle := rfl
@[simp] theorem State.idx_engineReset (q : List Byte) : (s.engineReset q).idx = 0 := rfl
@[simp] theorem State.txbuf_engineReset (q : List Byte) : (s.engineReset q).txbuf = unwrittenFrame := rfl
@[simp] theorem State.rxbuf_engineReset (q : List Byte) : (s.engineReset q).rxbuf = unwrittenFrame := rfl
@[simp] theorem State.tmo_engineReset (q : List Byte) : (s.engineReset q).tmo = 0 := rfl
@[simp] theorem State.status_engineReset (q : List Byte) : (s.engineReset q).status = 0 := rfl
@[simp] theorem State.reading_engineReset (q : List Byte) : (s.engineReset q).reading = 0 := rfl
@[simp] theorem State.rdValid_engineReset (q : List Byte) : (s.engineReset q).rdValid = false := rfl
@[simp] theorem State.done_engineReset (q : List Byte) : (s.engineReset q).done = false := rfl
@[simp] theorem State.flushReq_engineReset (q : List Byte) : (s.engineReset q).flushReq = false := rfl
@[simp] theorem State.cfgValid_engineReset (q : List Byte) : (s.engineReset q).cfgValid = false := rfl
@[simp] theorem State.opValid_engineReset (q : List Byte) : (s.engineReset q).opValid = s.opValid := rfl
@[simp] theorem State.op_engineReset (q : List Byte) : (s.engineReset q).op = s.op := rfl
@[simp] theorem State.opRxPin_engineReset (q : List Byte) : (s.engineReset q).opRxPin = s.opRxPin := rfl
@[simp] theorem State.opTxPin_engineReset (q : List Byte) : (s.engineReset q).opTxPin = s.opTxPin := rfl
@[simp] theorem State.txAck_engineReset (q : List Byte) : (s.engineReset q).txAck = s.txAck := rfl
@[simp] theorem State.txNak_engineReset (q : List Byte) : (s.engineReset q).txNak = s.txNak := rfl
@[simp] theorem State.tick_engineReset (q : List Byte) : (s.engineReset q).tick = s.tick := rfl
@[simp] theorem State.opened_engineReset (q : List Byte) : (s.engineReset q).opened = s.opened := rfl
@[simp] theorem State.rxq_engineReset (q : List Byte) : (s.engineReset q).rxq = q := rfl
@[simp] theorem State.txlog_engineReset (q : List Byte) : (s.engineReset q).txlog = [] := rfl
@[simp] theorem State.cfg_engineReset (q : List Byte) : (s.engineReset q).cfg = s.cfg := rfl
@[simp] theorem State.script_engineReset (q : List Byte) : (s.engineReset q).script = s.script := rfl
@[simp] theorem State.drawn_engineReset (q : List Byte) : (s.engineReset q).drawn = s.drawn := rfl

@[simp] theorem State.chOpen_completeWith (r : Code × Ppm) : (s.completeWith r p).chOpen = s.chOpen := by unfold State.completeWith; split <;> rfl
@[simp] theorem State.rxPin_completeWith (r : Code × Ppm) : (s.completeWith r p).rxPin = s.rxPin := by unfold State.completeWith; split <;> rfl
@[simp] theorem State.txPin_completeWith (r : Code × Ppm) : (s.completeWith r p).txPin = s.txPin := by unfold State.completeWith; split <;> rfl
@[simp] theorem State.phase_completeWith (r : Code × Ppm) : (s.completeWith r p).phase = .idle := by unfold State.completeWith; split <;> rfl
@[simp] theorem State.idx_completeWith (r : Code × Ppm) : (s.completeWith r p).idx = 0 := by unfold State.completeWith; split <;> rfl
@[simp] theorem State.txbuf_completeWith (r : Code × Ppm) : (s.completeWith r p).txbuf = s.txbuf := by unfold State.completeWith; split <;> rfl
@[simp] theorem State.rxbuf_completeWith (r : Code × Ppm) : (s.completeWith r p).rxbuf = s.rxbuf := by unfold State.completeWith; split <;> rfl
@[simp] theorem State.tmo_completeWith (r : Code × Ppm) : (s.completeWith r p).tmo = s.tmo := by unfold State.completeWith; split <;> rfl
@[simp] theorem State.done_completeWith (r : Code × Ppm) : (s.completeWith r p).done = true := by unfold State.completeWith; split <;> rfl
@[simp] theorem State.flushReq_completeWith (r : Code × Ppm) : (s.completeWith r p).flushReq = s.flushReq := by unfold State.completeWith; split <;> rfl
@[simp] theorem State.cfgValid_completeWith (r : Code × Ppm) : (s.completeWith r p).cfgValid = s.cfgValid := by unfold State.completeWith; split <;> rfl
@[simp] theorem State.opValid_completeWith (r : Code × Ppm) : (s.completeWith r p).opValid = s.opValid := by unfold State.completeWith; split <;> rfl
@[simp] theorem State.op_completeWith (r : Code × Ppm) : (s.completeWith r p).op = s.op := by unfold State.completeWith; split <;> rfl
@[simp] theorem State.opRxPin_completeWith (r : Code × Ppm) : (s.completeWith r p).opRxPin = s.opRxPin := by unfold State.completeWith; split <;> rfl
@[simp] theorem State.opTxPin_completeWith (r : Code × Ppm) : (s.completeWith r p).opTxPin = s.opTxPin := by unfold State.completeWith; split <;> rfl
@[simp] theorem State.txAck_completeWith (r : Code × Ppm) : (s.completeWith r p).txAck = s.txAck := by unfold State.completeWith; split <;> rfl
@[simp] theorem State.txNak_completeWith (r : Code × Ppm) : (s.completeWith r p).txNak = s.txNak := by unfold State.completeWith; split <;> rfl
@[simp] theorem State.tick_completeWith (r : Code × Ppm) : (s.completeWith r p).tick = s.tick := by unfold State.completeWith; split <;> rfl
@[simp] theorem State.opened_completeWith (r : Code × Ppm) : (s.completeWith r p).opened = s.opened := by unfold State.completeWith; split <;> rfl
@[simp] theorem State.rxq_completeWith (r : Code × Ppm) : (s.completeWith r p).rxq = s.rxq := by unfold State.completeWith; split <;> rfl
@[simp] theorem State.txlog_completeWith (r : Code × Ppm) : (s.completeWith r p).txlog = s.txlog := by unfold State.completeWith; split <;> rfl
@[simp] theorem State.cfg_completeWith (r : Code × Ppm) : (s.completeWith r p).cfg = s.cfg := by unfold State.completeWith; split <;> rfl
@[simp] theorem State.script_completeWith (r : Code × Ppm) : (s.completeWith r p).script = s.script := by unfold State.completeWith; split <;> rfl
@[simp] theorem State.drawn_completeWith (r : Code × Ppm) : (s.completeWith r p).drawn = s.drawn := by unfold State.completeWith; split <;> rfl

@[simp] theorem State.chOpen_beginExchange : (s.beginExchange p).chOpen = s.chOpen := by unfold State.beginExchange; split <;> rfl
@[simp] theorem State.rxPin_beginExchange : (s.beginExchange p).rxPin = s.rxPin := by unfold State.beginExchange; split <;> rfl
@[simp] theorem State.txPin_beginExchange : (s.beginExchange p).txPin = s.txPin := by unfold State.beginExchange; split <;> rfl
@[simp] theorem State.phase_beginExchange : (s.beginExchange p).phase = .tx := by unfold State.beginExchange; split <;> rfl
@[simp] theorem State.idx_beginExchange : (s.beginExchange p).idx = 0 := by unfold State.beginExchange; split <;> rfl
@[simp] theorem State.txbuf_beginExchange : (s.beginExchange p).txbuf = commandFrame p := by unfold State.beginExchange; split <;> rfl
@[simp] theorem State.rxbuf_beginExchange : (s.beginExchange p).rxbuf = s.rxbuf := by unfold State.beginExchange; split <;> rfl
@[simp] theorem State.tmo_beginExchange : (s.beginExchange p).tmo = s.tmo := by unfold State.beginExchange; split <;> rfl
@[simp] theorem State.status_beginExchange : (s.beginExchange p).status = 0 := by unfold State.beginExchange; split <;> rfl
@[simp] theorem State.reading_beginExchange : (s.beginExchange p).reading = 0 := by unfold State.beginExchange; split <;> rfl
@[simp] theorem State.rdValid_beginExchange : (s.beginExchange p).rdValid = false := by unfold State.beginExchange; split <;> rfl
@[simp] theorem State.done_beginExchange : (s.beginExchange p).done = false := by unfold State.beginExchange; split <;> rfl
@[simp] theorem State.cfgValid_beginExchange : (s.beginExchange p).cfgValid = s.cfgValid := by unfold State.beginExchange; split <;> rfl
@[simp] theorem State.opValid_beginExchange : (s.beginExchange p).opValid = s.opValid := by unfold State.beginExchange; split <;> rfl
@[simp] theorem State.op_beginExchange : (s.beginExchange p).op = s.op := by unfold State.beginExchange; split <;> rfl
@[simp] theorem State.opRxPin_beginExchange : (s.beginExchange p).opRxPin = s.opRxPin := by unfold State.beginExchange; split <;> rfl
@[simp] theorem State.opTxPin_beginExchange : (s.beginExchange p).opTxPin = s.opTxPin := by unfold State.beginExchange; split <;> rfl
@[simp] theorem State.txAck_beginExchange : (s.beginExchange p).txAck = s.txAck := by unfold State.beginExchange; split <;> rfl
@[simp] theorem State.txNak_beginExchange : (s.beginExchange p).txNak = s.txNak := by unfold State.beginExchange; split <;> rfl
@[simp] theorem State.tick_beginExchange : (s.beginExchange p).tick = s.tick := by unfold State.beginExchange; split <;> rfl
@[simp] theorem State.opened_beginExchange : (s.beginExchange p).opened = s.opened := by unfold State.beginExchange; split <;> rfl
@[simp] theorem State.txlog_beginExchange : (s.beginExchange p).txlog = s.txlog := by unfold State.beginExchange; split <;> rfl
@[simp] theorem State.cfg_beginExchange : (s.beginExchange p).cfg = s.cfg := by unfold State.beginExchange; split <;> rfl
@[simp] theorem State.script_beginExchange : (s.beginExchange p).script = s.script := by unfold State.beginExchange; split <;> rfl
@[simp] theorem State.drawn_beginExchange : (s.beginExchange p).drawn = s.drawn := by unfold State.beginExchange; split <;> rfl

@[simp] theorem State.chOpen_afterSent : s.afterSent.chOpen = s.chOpen := by unfold State.afterSent; split <;> rfl
@[simp] theorem State.rxPin_afterSent : s.afterSent.rxPin = s.rxPin := by unfold State.afterSent; split <;> rfl
@[simp] theorem State.txPin_afterSent : s.afterSent.txPin = s.txPin := by unfold State.afterSent; split <;> rfl
@[simp] theorem State.txbuf_afterSent : s.afterSent.txbuf = s.txbuf := by unfold State.afterSent; split <;> rfl
@[simp] theorem State.rxbuf_afterSent : s.afterSent.rxbuf = s.rxbuf := by unfold State.afterSent; split <;> rfl
@[simp] theorem State.status_afterSent : s.afterSent.status = s.status := by unfold State.afterSent; split <;> rfl
@[simp] theorem State.reading_afterSent : s.afterSent.reading = s.reading := by unfold State.afterSent; split <;> rfl
@[simp] theorem State.rdValid_afterSent : s.afterSent.rdValid = s.rdValid := by unfold State.afterSent; split <;> rfl
@[simp] theorem State.done_afterSent : s.afterSent.done = s.done := by unfold State.afterSent; split <;> rfl
@[simp] theorem State.flushReq_afterSent : s.afterSent.flushReq = s.flushReq := by unfold State.afterSent; split <;> rfl
@[simp] theorem State.cfgValid_afterSent : s.afterSent.cfgValid = s.cfgValid := by unfold State.afterSent; split <;> rfl
@[simp] theorem State.opValid_afterSent : s.afterSent.opValid = s.opValid := by unfold State.afterSent; split <;> rfl
@[simp] theorem State.op_afterSent : s.afterSent.op = s.op := by unfold State.afterSent; split <;> rfl
@[simp] theorem State.opRxPin_afterSent : s.afterSent.opRxPin = s.opRxPin := by unfold State.afterSent; split <;> rfl
@[simp] theorem State.opTxPin_afterSent : s.afterSent.opTxPin = s.opTxPin := by unfold State.afterSent; split <;> rfl
@[simp] theorem State.txAck_afterSent : s.afterSent.txAck = s.txAck := by unfold State.afterSent; split <;> rfl
@[simp] theorem State.txNak_afterSent : s.afterSent.txNak = s.txNak := by unfold State.afterSent; split <;> rfl
@[simp] theorem State.tick_afterSent : s.afterSent.tick = s.tick := by unfold State.afterSent; split <;> rfl
@[simp] theorem State.opened_afterSent : s.afterSent.opened = s.opened := by unfold State.afterSent; split <;> rfl
@[simp] theorem State.rxq_afterSent : s.afterSent.rxq = s.rxq := by unfold State.afterSent; split <;> rfl
@[simp] theorem State.txlog_afterSent : s.afterSent.txlog = s.txlog := by unfold State.afterSent; split <;> rfl
@[simp] theorem State.cfg_afterSent : s.afterSent.cfg = s.cfg := by unfold State.afterSent; split <;> rfl
@[simp] theorem State.script_afterSent : s.afterSent.script = s.script := by unfold State.afterSent; split <;> rfl
@[simp] theorem State.drawn_afterSent : s.afterSent.drawn = s.drawn := by unfold State.afterSent; split <;> rfl

@[simp] theorem State.chOpen_afterStored : s.afterStored.chOpen = s.chOpen := by unfold State.afterStored; split <;> rfl
@[simp] theorem State.rxPin_afterStored : s.afterStored.rxPin = s.rxPin := by unfold State.afterStored; split <;> rfl
@[simp] theorem State.txPin_afterStored : s.afterStored.txPin = s.txPin := by unfold State.afterStored; split <;> rfl
@[simp] theorem State.txbuf_afterStored : s.afterStored.txbuf = s.txbuf := by unfold State.afterStored; split <;> rfl
@[simp] theorem State.rxbuf_afterStored : s.afterStored.rxbuf = s.rxbuf := by unfold State.afterStored; split <;> rfl
@[simp] theorem State.tmo_afterStored : s.afterStored.tmo = s.tmo := by unfold State.afterStored; split <;> rfl
@[simp] theorem State.status_afterStored : s.afterStored.status = s.status := by unfold State.afterStored; split <;> rfl
@[simp] theorem State.reading_afterStored : s.afterStored.reading = s.reading := by unfold State.afterStored; split <;> rfl
@[simp] theorem State.rdValid_afterStored : s.afterStored.rdValid = s.rdValid := by unfold State.afterStored; split <;> rfl
@[simp] theorem State.done_afterStored : s.afterStored.done = s.done := by unfold State.afterStored; split <;> rfl
@[simp] theorem State.flushReq_afterStored : s.afterStored.flushReq = s.flushReq := by unfold State.afterStored; split <;> rfl
@[simp] theorem State.cfgValid_afterStored : s.afterStored.cfgValid = s.cfgValid := by unfold State.afterStored; split <;> rfl
@[simp] theorem State.opValid_afterStored : s.afterStored.opValid = s.opValid := by unfold State.afterStored; split <;> rfl
@[simp] theorem State.op_afterStored : s.afterStored.op = s.op := by unfold State.afterStored; split <;> rfl
@[simp] theorem State.opRxPin_afterStored : s.afterStored.opRxPin = s.opRxPin := by unfold State.afterStored; split <;> rfl
@[simp] theorem State.opTxPin_afterStored : s.afterStored.opTxPin = s.opTxPin := by unfold State.afterStored; split <;> rfl
@[simp] theorem State.txAck_afterStored : s.afterStored.txAck = s.txAck := by unfold State.afterStored; split <;> rfl
@[simp] theorem State.txNak_afterStored : s.afterStored.txNak = s.txNak := by unfold State.afterStored; split <;> rfl
@[simp] theorem State.tick_afterStored : s.afterStored.tick = s.tick := by unfold State.afterStored; split <;> rfl
@[simp] theorem State.opened_afterStored : s.afterStored.opened = s.opened := by unfold State.afterStored; split <;> rfl
@[simp] theorem State.rxq_afterStored : s.afterStored.rxq = s.rxq := by unfold State.afterStored; split <;> rfl
@[simp] theorem State.txlog_afterStored : s.afterStored.txlog = s.txlog := by unfold State.afterStored; split <;> rfl
@[simp] theorem State.cfg_afterStored : s.afterStored.cfg = s.cfg := by unfold State.afterStored; split <;> rfl
@[simp] theorem State.script_afterStored : s.afterStored.script = s.script := by unfold State.afterStored; split <;> rfl
@[simp] theorem State.drawn_afterStored : s.afterStored.drawn = s.drawn := by unfold State.afterStored; split <;> rfl

@[simp] theorem State.chOpen_countTick : (s.countTick p).chOpen = s.chOpen := by unfold State.countTick; split <;> rfl
@[simp] theorem State.rxPin_countTick : (s.countTick p).rxPin = s.rxPin := by unfold State.countTick; split <;> rfl
@[simp] theorem State.txPin_countTick : (s.countTick p).txPin = s.txPin := by unfold State.countTick; split <;> rfl
@[simp] theorem State.txbuf_countTick : (s.countTick p).txbuf = s.txbuf := by unfold State.countTick; split <;> rfl
@[simp] theorem State.rxbuf_countTick : (s.countTick p).rxbuf = s.rxbuf := by unfold State.countTick; split <;> rfl
@[simp] theorem State.flushReq_countTick : (s.countTick p).flushReq = s.flushReq := by unfold State.countTick; split <;> rfl
@[simp] theorem State.cfgValid_countTick : (s.countTick p).cfgValid = s.cfgValid := by unfold State.countTick; split <;> rfl
@[simp] theorem State.opValid_countTick : (s.countTick p).opValid = s.opValid := by unfold State.countTick; split <;> rfl
@[simp] theorem State.op_countTick : (s.countTick p).op = s.op := by unfold State.countTick; split <;> rfl
@[simp] theorem State.opRxPin_countTick : (s.countTick p).opRxPin = s.opRxPin := by unfold State.countTick; split <;> rfl
@[simp] theorem State.opTxPin_countTick : (s.countTick p).opTxPin = s.opTxPin := by unfold State.countTick; split <;> rfl
@[simp] theorem State.txAck_countTick : (s.countTick p).txAck = s.txAck := by unfold State.countTick; split <;> rfl
@[simp] theorem State.txNak_countTick : (s.countTick p).txNak = s.txNak := by unfold State.countTick; split <;> rfl
@[simp] theorem State.tick_countTick : (s.countTick p).tick = s.tick := by unfold State.countTick; split <;> rfl
@[simp] theorem State.opened_countTick : (s.countTick p).opened = s.opened := by unfold State.countTick; split <;> rfl
@[simp] theorem State.rxq_countTick : (s.countTick p).rxq = s.rxq := by unfold State.countTick; split <;> rfl
@[simp] theorem State.txlog_countTick : (s.countTick p).txlog = s.txlog := by unfold State.countTick; split <;> rfl
@[simp] theorem State.cfg_countTick : (s.countTick p).cfg = s.cfg := by unfold State.countTick; split <;> rfl
@[simp] theorem State.script_countTick : (s.countTick p).script = s.script := by unfold State.countTick; split <;> rfl
@[simp] theorem State.drawn_countTick : (s.countTick p).drawn = s.drawn := by unfold State.countTick; split <;> rfl

@[simp] theorem State.chOpen_takeOp : s.takeOp.chOpen = s.chOpen := by unfold State.takeOp; split <;> rfl
@[simp] theorem State.rxPin_takeOp : s.takeOp.rxPin = s.rxPin := by unfold State.takeOp; split <;> rfl
@[simp] theorem State.txPin_takeOp : s.takeOp.txPin = s.txPin := by unfold State.takeOp; split <;> rfl
@[simp] theorem State.phase_takeOp : s.takeOp.phase = s.phase := by unfold State.takeOp; split <;> rfl
@[simp] theorem State.idx_takeOp : s.takeOp.idx = s.idx := by unfold State.takeOp; split <;> rfl
@[simp] theorem State.txbuf_takeOp : s.takeOp.txbuf = s.txbuf := by unfold State.takeOp; split <;> rfl
@[simp] theorem State.rxbuf_takeOp : s.takeOp.rxbuf = s.rxbuf := by unfold State.takeOp; split <;> rfl
@[simp] theorem State.tmo_takeOp : s.takeOp.tmo = s.tmo := by unfold State.takeOp; split <;> rfl
@[simp] theorem State.status_takeOp : s.takeOp.status = s.status := by unfold State.takeOp; split <;> rfl
@[simp] theorem State.reading_takeOp : s.takeOp.reading = s.reading := by unfold State.takeOp; split <;> rfl
@[simp] theorem State.rdValid_takeOp : s.takeOp.rdValid = s.rdValid := by unfold State.takeOp; split <;> rfl
@[simp] theorem State.done_takeOp : s.takeOp.done = s.done := by unfold State.takeOp; split <;> rfl
@[simp] theorem State.flushReq_takeOp : s.takeOp.flushReq = s.flushReq := by unfold State.takeOp; split <;> rfl
@[simp] theorem State.cfgValid_takeOp : s.takeOp.cfgValid = s.cfgValid := by unfold State.takeOp; split <;> rfl
@[simp] theorem State.op_takeOp : s.takeOp.op = s.op := by unfold State.takeOp; split <;> rfl
@[simp] theorem State.opRxPin_takeOp : s.takeOp.opRxPin = s.opRxPin := by unfold State.takeOp; split <;> rfl
@[simp] theorem State.opTxPin_takeOp : s.takeOp.opTxPin = s.opTxPin := by unfold State.takeOp; split <;> rfl
@[simp] theorem State.txAck_takeOp : s.takeOp.txAck = s.txAck := by unfold State.takeOp; split <;> rfl
@[simp] theorem State.txNak_takeOp : s.takeOp.txNak = s.txNak := by unfold State.takeOp; split <;> rfl
@[simp] theorem State.tick_takeOp : s.takeOp.tick = s.tick := by unfold State.takeOp; split <;> rfl
@[simp] theorem State.opened_takeOp : s.takeOp.opened = s.opened := by unfold State.takeOp; split <;> rfl
@[simp] theorem State.rxq_takeOp : s.takeOp.rxq = s.rxq := by unfold State.takeOp; split <;> rfl
@[simp] theorem State.txlog_takeOp : s.takeOp.txlog = s.txlog := by unfold State.takeOp; split <;> rfl
@[simp] theorem State.cfg_takeOp : s.takeOp.cfg = s.cfg := by unfold State.takeOp; split <;> rfl
@[simp] theorem State.script_takeOp : s.takeOp.script = s.script := by unfold State.takeOp; split <;> rfl
@[simp] theorem State.drawn_takeOp : s.takeOp.drawn = s.drawn := by unfold State.takeOp; split <;> rfl

@[simp] theorem State.chOpen_advance : s.advance.chOpen = s.chOpen := by unfold State.advance; split <;> rfl
@[simp] theorem State.rxPin_advance : s.advance.rxPin = s.rxPin := by unfold State.advance; split <;> rfl
@[simp] theorem State.txPin_advance : s.advance.txPin = s.txPin := by unfold State.advance; split <;> rfl
@[simp] theorem State.phase_advance : s.advance.phase = s.phase := by unfold State.advance; split <;> rfl
@[simp] theorem State.idx_advance : s.advance.idx = s.idx := by unfold State.advance; split <;> rfl
@[simp] theorem State.txbuf_advance : s.advance.txbuf = s.txbuf := by unfold State.advance; split <;> rfl
@[simp] theorem State.rxbuf_advance : s.advance.rxbuf = s.rxbuf := by unfold State.advance; split <;> rfl
@[simp] theorem State.tmo_advance : s.advance.tmo = s.tmo := by unfold State.advance; split <;> rfl
@[simp] theorem State.status_advance : s.advance.status = s.status := by unfold State.advance; split <;> rfl
@[simp] theorem State.reading_advance : s.advance.reading = s.reading := by unfold State.advance; split <;> rfl
@[simp] theorem State.rdValid_advance : s.advance.rdValid = s.rdValid := by unfold State.advance; split <;> rfl
@[simp] theorem State.done_advance : s.advance.done = s.done := by unfold State.advance; split <;> rfl
@[simp] theorem State.flushReq_advance : s.advance.flushReq = s.flushReq := by unfold State.advance; split <;> rfl
@[simp] theorem State.cfgValid_advance : s.advance.cfgValid = s.cfgValid := by unfold State.advance; split <;> rfl
@[simp] theorem State.opValid_advance : s.advance.opValid = s.opValid := by unfold State.advance; split <;> rfl
@[simp] theorem State.op_advance : s.advance.op = s.op := by unfold State.advance; split <;> rfl
@[simp] theorem State.opRxPin_advance : s.advance.opRxPin = s.opRxPin := by unfold State.advance; split <;> rfl
@[simp] theorem State.opTxPin_advance : s.advance.opTxPin = s.opTxPin := by unfold State.advance; split <;> rfl
@[simp] theorem State.txAck_advance : s.advance.txAck = s.txAck := by unfold State.advance; split <;> rfl
@[simp] theorem State.txNak_advance : s.advance.txNak = s.txNak := by unfold State.advance; split <;> rfl
@[simp] theorem State.tick_advance : s.advance.tick = s.tick := by unfold State.advance; split <;> rfl
@[simp] theorem State.opened_advance : s.advance.opened = s.opened := by unfold State.advance; split <;> rfl
@[simp] theorem State.rxq_advance : s.advance.rxq = s.rxq := by unfold State.advance; split <;> rfl
@[simp] theorem State.txlog_advance : s.advance.txlog = s.txlog := by unfold State.advance; split <;> rfl
@[simp] theorem State.cfg_advance : s.advance.cfg = s.cfg := by unfold State.advance; split <;> rfl

end Sys2Proof.Machine
end

