-- ==== Sys2Proof/Laws/Ops.lean ====
section
/-! SUPPORT. Once for each shared operation: everything it can do. -/

namespace Sys2Proof.Machine

open Sys2Proof

/-! ### The frame buffers (20_memory.md R50, R56) -/

/-- Inside a frame an indexed read answers the byte. -/
theorem frameGet_eq_some (f : Frame) (i : BitVec 4) (h : i.toNat < 9) : frameGet f i = some f[i.toNat] := by
  simp [frameGet, h]

/-- An indexed read has no answer exactly at the indices no frame has. -/
theorem frameGet_eq_none (f : Frame) (i : BitVec 4) : frameGet f i = none ↔ 9 ≤ i.toNat := by
  simp [frameGet]

/-- An indexed write has no answer exactly at the indices no frame has. -/
theorem frameSet_eq_none (f : Frame) (i : BitVec 4) (b : Byte) : frameSet f i b = none ↔ 9 ≤ i.toNat := by
  unfold frameSet
  split
  · rename_i hi
    exact ⟨nofun, fun hc => absurd hi (Nat.not_lt.2 hc)⟩
  · rename_i hi
    exact ⟨fun _ => Nat.le_of_not_lt hi, fun _ => rfl⟩

/-- Everything an indexed write does: the byte is read back, and every other byte reads as before. -/
theorem frameSet_eq_some (f g : Frame) (i : BitVec 4) (b : Byte) (h : frameSet f i b = some g) :
    i.toNat < 9 ∧ frameGet g i = some b ∧ ∀ j : BitVec 4, j ≠ i → frameGet g j = frameGet f j := by
  unfold frameSet at h
  split at h
  · rename_i hi
    cases h
    refine ⟨hi, by simp [frameGet, hi], fun j hj => ?_⟩
    have hne : i.toNat ≠ j.toNat := fun he => hj (BitVec.eq_of_toNat_eq he.symm)
    simp [frameGet, hne]
  · cases h

/-! ### The pin operands (10_state.md R33) -/

/-- What the wires carry fits `PIN_W` bits. -/
theorem pinWires_lt (n : Nat) (s : State) : s.pinWires n < 2 ^ s.cfg.pinW :=
  Nat.mod_lt _ (Nat.two_pow_pos _)

/-- The wires carry every number that fits `PIN_W` bits. -/
theorem pinWires_of_lt (n : Nat) (s : State) (h : n < 2 ^ s.cfg.pinW) : s.pinWires n = n :=
  Nat.mod_eq_of_lt h

/-! ### The steps of an exchange (42_sequencer.md R144 to R149) -/

theorem afterSent_cases (s : State) :
    (s.idx < 8 ∧ s.afterSent = { s with idx := s.idx + 1 }) ∨
    (¬ s.idx < 8 ∧ s.afterSent = { s with idx := 0, tmo := s.cfg.readTimeoutTicks, phase := .rx }) := by
  unfold State.afterSent
  split
  · exact .inl ⟨‹_›, rfl⟩
  · exact .inr ⟨‹_›, rfl⟩

theorem afterStored_cases (s : State) :
    (s.idx < 8 ∧ s.afterStored = { s with idx := s.idx + 1 }) ∨
    (¬ s.idx < 8 ∧ s.afterStored = { s with idx := 0, phase := .check }) := by
  unfold State.afterStored
  split
  · exact .inl ⟨‹_›, rfl⟩
  · exact .inr ⟨‹_›, rfl⟩

theorem countTick_cases (s : State) (p : Protocol := .stated) :
    (1 < s.tmo ∧ s.countTick p = { s with tmo := s.tmo - 1 }) ∨
    (s.tmo ≤ 1 ∧ s.countTick p = { s with tmo := 0 }.complete .read 0 p) := by
  unfold State.countTick
  split
  · exact .inl ⟨‹_›, rfl⟩
  · exact .inr ⟨Nat.le_of_not_lt ‹_›, rfl⟩

theorem completeWith_cases (r : Code × Ppm) (s : State) (p : Protocol := .stated) :
    (r.1 = .ok ∧ s.completeWith r p = s.completeReading r.2 p) ∨
    (r.1 ≠ .ok ∧ s.completeWith r p = s.complete r.1 0 p) := by
  unfold State.completeWith
  split
  · exact .inl ⟨‹_›, rfl⟩
  · exact .inr ⟨‹_›, rfl⟩

theorem takeOp_cases (s : State) :
    (s.phase = .idle ∧ s.takeOp = { s with opValid := false }) ∨ (s.phase ≠ .idle ∧ s.takeOp = s) := by
  unfold State.takeOp
  split
  · exact .inl ⟨‹_›, rfl⟩
  · exact .inr ⟨‹_›, rfl⟩

/-- If sending answers a next state: the byte was refused, or it was accepted, or the ENGINE waits. -/
theorem sendByte_next {p : Protocol} (s t : State) (h : sendByte s p = .next t) :
    (s.txNak = true ∧ t = s.complete .write 0 p) ∨
    (s.txNak = false ∧ s.txAck = true ∧ ∃ b, s.offered = some b ∧ t = (s.txWrite b).afterSent) ∨
    (s.txNak = false ∧ s.txAck = false ∧ t = s) := by
  unfold sendByte at h
  split at h
  · exact .inl ⟨‹_›, by cases h; rfl⟩
  · rename_i hn
    have hn : s.txNak = false := by simpa using hn
    split at h
    · rename_i ha
      split at h
      · exact .inr (.inl ⟨hn, ha, _, ‹_›, by cases h; rfl⟩)
      · cases h
    · rename_i ha
      exact .inr (.inr ⟨hn, by simpa using ha, by cases h; rfl⟩)

/-- Sending faults only at an index no frame has, and never refuses. -/
theorem sendByte_stops (s : State) (p : Protocol := .stated) :
    (∀ r, sendByte s p = .fault r → 9 ≤ s.idx.toNat) ∧ ∀ r, sendByte s p ≠ .refused r := by
  unfold sendByte
  constructor
  · intro r h
    split at h
    · cases h
    · split at h
      · split at h
        · cases h
        · rename_i ho
          exact (frameGet_eq_none _ _).1 ho
      · cases h
  · intro r h
    split at h
    · cases h
    · split at h
      · split at h <;> cases h
      · cases h

/-- If receiving answers a next state: the waiting byte was stored, or a tick was counted, or the ENGINE waits. -/
theorem receiveByte_next {p : Protocol} (s t : State) (h : receiveByte s p = .next t) :
    (∃ b rest f, s.rxq = b :: rest ∧ frameSet s.rxbuf s.idx b = some f ∧
      t = { s with rxbuf := f, rxq := rest }.afterStored) ∨
    (s.rxq = [] ∧ s.tick = true ∧ t = s.countTick p) ∨
    (s.rxq = [] ∧ s.tick = false ∧ t = s) := by
  unfold receiveByte at h
  split at h
  · split at h
    · exact .inl ⟨_, _, _, ‹_›, ‹_›, by cases h; rfl⟩
    · cases h
  · split at h
    · exact .inr (.inl ⟨‹_›, ‹_›, by cases h; rfl⟩)
    · rename_i ht
      exact .inr (.inr ⟨‹_›, by simpa using ht, by cases h; rfl⟩)

/-- Receiving faults only at an index no frame has, and never refuses. -/
theorem receiveByte_stops (s : State) (p : Protocol := .stated) :
    (∀ r, receiveByte s p = .fault r → 9 ≤ s.idx.toNat) ∧ ∀ r, receiveByte s p ≠ .refused r := by
  unfold receiveByte
  constructor
  · intro r h
    split at h
    · split at h
      · cases h
      · rename_i hf
        exact (frameSet_eq_none _ _ _).1 hf
    · split at h <;> cases h
  · intro r h
    split at h
    · split at h <;> cases h
    · split at h <;> cases h

/-! ### The instructions -/

/-- If READCO2 answers a next state: it was accepted, or the exchange in progress took its step. -/
theorem execReadCo2_next {p : Protocol} (s t : State) (h : execReadCo2 s p = .next t) :
    (s.phase = .idle ∧ t = acceptRead s p) ∨ (s.phase = .tx ∧ sendByte s p = .next t) ∨
    (s.phase = .rx ∧ receiveByte s p = .next t) ∨ (s.phase = .check ∧ t = judgeFrame s.rxbuf s p) := by
  unfold execReadCo2 at h
  split at h
  · exact .inl ⟨‹_›, by cases h; rfl⟩
  · exact .inr (.inl ⟨‹_›, h⟩)
  · exact .inr (.inr (.inl ⟨‹_›, h⟩))
  · exact .inr (.inr (.inr ⟨‹_›, by cases h; rfl⟩))

/-- INIT always answers a next state: it is accepted in IDLE, and waits elsewhere. -/
theorem execInit_cases (rx tx : Pin) (s : State) (p : Protocol := .stated) :
    (s.phase = .idle ∧ execInit rx tx s p = .next ((s.openChannel rx tx).complete .ok 0 p)) ∨
    (s.phase ≠ .idle ∧ execInit rx tx s p = .next s) := by
  unfold execInit
  split
  · exact .inl ⟨‹_›, rfl⟩
  · exact .inr ⟨‹_›, rfl⟩

/-- FLUSH always answers a next state: it is accepted in IDLE, and waits elsewhere. -/
theorem execFlush_cases (s : State) (p : Protocol := .stated) :
    (s.phase = .idle ∧ s.chOpen = true ∧ execFlush s p = .next (s.rxFlush.complete .ok 0 p)) ∨
    (s.phase = .idle ∧ s.chOpen = false ∧ execFlush s p = .next (s.complete .noInit 0 p)) ∨
    (s.phase ≠ .idle ∧ execFlush s p = .next s) := by
  unfold execFlush
  split
  · cases hc : s.chOpen
    · exact .inr (.inl ⟨‹_›, rfl, by simp⟩)
    · exact .inl ⟨‹_›, rfl, by simp⟩
  · exact .inr (.inr ⟨‹_›, rfl⟩)

/-! ### The turn and the step -/

/-- The instruction of a turn, phase by phase. -/
theorem fetch_cases (s : State) :
    (s.phase = .idle ∧ s.opValid = false ∧ fetch s = none) ∨
    (s.phase = .idle ∧ s.opValid = true ∧ fetch s = some (decodeOp s.op s.opRxPin s.opTxPin)) ∨
    (s.phase = .tx ∧ (fetch s = some .cfReadCo2 ∨ fetch s = some .readCo2)) ∨
    (s.phase = .rx ∧ fetch s = some .readCo2) ∨
    (s.phase = .check ∧
      (fetch s = some .readCo2 ∨
        fetch s = some (.rfReadCo2 s.rxbuf[2] s.rxbuf[3] s.rxbuf[4] s.rxbuf[5] s.rxbuf[6] s.rxbuf[7] s.rxbuf[8]) ∧
          s.rxbuf[0] = 0xFF ∧ s.rxbuf[1] = 0x86)) := by
  unfold fetch
  split
  · rename_i hp
    cases ho : s.opValid
    · exact .inl ⟨hp, rfl, by simp⟩
    · exact .inr (.inl ⟨hp, rfl, by simp⟩)
  · rename_i hp
    refine .inr (.inr (.inl ⟨hp, ?_⟩))
    split
    · exact .inl rfl
    · exact .inr rfl
  · rename_i hp
    exact .inr (.inr (.inr (.inl ⟨hp, rfl⟩)))
  · rename_i hp
    refine .inr (.inr (.inr (.inr ⟨hp, ?_⟩)))
    split
    · rename_i hd
      rcases decodeFrame_ok _ _ hd with ⟨_, hi⟩ | ⟨_, h0, h1, hi⟩
      · cases hi
      · cases hi
        exact .inr ⟨rfl, h0, h1⟩
    · exact .inl rfl

/-- Nine bytes are the frame of their own fields when the start byte and the echo are in place. -/
theorem frame_of_fields (r : Frame) (h0 : r[0] = 0xFF) (h1 : r[1] = 0x86) :
    (#v[Protocol.stated.start, Protocol.stated.cmdReadCo2, r[2], r[3], r[4], r[5], r[6], r[7], r[8]] : Frame) = r := by
  obtain ⟨⟨l⟩, h⟩ := r
  match l, h with
  | [_, _, _, _, _, _, _, _, _], _ => simp_all

/-- A turn in TX is the transmit step, whatever `txbuf` holds. -/
theorem engineTurn_tx (a : Answers) (s : State) (h : s.phase = .tx) :
    engineTurn a s = sendByte (s.sample a) := by
  have ht : (s.sample a).takeOp = s.sample a := by simp [State.takeOp, h]
  unfold engineTurn engineTurnWith
  rcases fetch_cases (s.sample a) with ⟨hp, _⟩ | ⟨hp, _⟩ | ⟨hp, hf⟩ | ⟨hp, _⟩ | ⟨hp, _⟩ <;>
    simp [h] at hp
  rcases hf with hf | hf <;> simp [hf, ht, exec, execCfReadCo2, execReadCo2, h]

/-- A turn in RX is the receive step. -/
theorem engineTurn_rx (a : Answers) (s : State) (h : s.phase = .rx) :
    engineTurn a s = receiveByte (s.sample a) := by
  simp [engineTurn, engineTurnWith, fetch, h, State.takeOp, exec, execReadCo2]

/-- A turn in CHECK judges the nine bytes of `rxbuf`, whether or not they decode as a response frame. -/
theorem engineTurn_check (a : Answers) (s : State) (h : s.phase = .check) :
    engineTurn a s = .next (judgeFrame s.rxbuf (s.sample a)) := by
  have ht : (s.sample a).takeOp = s.sample a := by simp [State.takeOp, h]
  unfold engineTurn engineTurnWith
  rcases fetch_cases (s.sample a) with ⟨hp, _⟩ | ⟨hp, _⟩ | ⟨hp, _⟩ | ⟨hp, _⟩ | ⟨hp, hf⟩ <;>
    simp [h] at hp
  rcases hf with hf | ⟨hf, h0, h1⟩
  · simp [hf, ht, exec, execReadCo2, h]
  · have hr := frame_of_fields _ h0 h1
    simp only [State.rxbuf_sample] at hf hr
    simp only [hf, ht, exec, execRfReadCo2, State.phase_sample, h, if_true, hr]

/-- A turn in IDLE with nothing presented is a wait. -/
theorem engineTurn_wait (a : Answers) (s : State) (h : s.phase = .idle) (ho : s.opValid = false) :
    engineTurn a s = .next (s.sample a) := by
  simp [engineTurn, engineTurnWith, fetch, h, ho]

/-- A turn in IDLE with an operation presented is its instruction, taken from the port. -/
theorem engineTurn_accept (a : Answers) (s : State) (h : s.phase = .idle) (ho : s.opValid = true) :
    engineTurn a s = exec (decodeOp s.op s.opRxPin s.opTxPin) { s.sample a with opValid := false } := by
  simp [engineTurn, engineTurnWith, fetch, h, ho, State.takeOp]

/-- The move a step performs, from the script or drawn. -/
theorem nextMove_cases (s : State) :
    (∃ m rest, s.script = m :: rest ∧ s.nextMove = m ∧ s.advance = { s with script := rest }) ∨
    (s.script = [] ∧ s.nextMove = Config.freeMove s.drawn ∧ s.advance = { s with drawn := s.drawn + 1 }) := by
  unfold State.nextMove State.advance
  split
  · exact .inl ⟨_, _, ‹_›, rfl, rfl⟩
  · exact .inr ⟨‹_›, rfl, rfl⟩

end Sys2Proof.Machine
end

