-- ==== Sys2Proof/Laws/PerInstr.lean ====
section
/-! SUPPORT. A family of statements about every instruction: the length of its encoding (30_encoding.md R70: a frame
is nine bytes; a host operation word is its code and two pins). -/

namespace Sys2Proof.Laws

open Sys2Proof

/-- An instruction's encoding is nine bytes for a wire frame and three for a host operation word. -/
def EncodedLength.Statement (i : Instr) : Prop :=
  (encodeBytes i).length = match encode i with | .frame _ => 9 | .hop _ _ _ => 3

theorem EncodedLength.init (rx tx : Pin) : EncodedLength.Statement (.init rx tx) := rfl

theorem EncodedLength.flush : EncodedLength.Statement .flush := rfl

theorem EncodedLength.readCo2 : EncodedLength.Statement .readCo2 := rfl

theorem EncodedLength.reservedOp3 : EncodedLength.Statement .reservedOp3 := rfl

theorem EncodedLength.cfReadCo2 : EncodedLength.Statement .cfReadCo2 := rfl

theorem EncodedLength.rfReadCo2 (high low x4 x5 x6 x7 chk : Byte) :
    EncodedLength.Statement (.rfReadCo2 high low x4 x5 x6 x7 chk) := rfl

end Sys2Proof.Laws
end

