-- ==== Sys2Proof/Laws/Run.lean ====
section
/-! SUPPORT. Everything a move can do, and how runs compose. -/

namespace Sys2Proof.Machine

open Sys2Proof

/-- The state a turn's step starts from, when the script has moved on. -/
theorem sample_eq_turn (s : State) (a : Answers) (rest : List Move) :
    { s with script := rest }.sample a = s.turn a rest := rfl

/-- The state a turn's step starts from, as a move. -/
theorem sample_eq_turn_self (s : State) (a : Answers) : s.sample a = s.turn a s.script := rfl

/-- If a turn of the ENGINE answers a next state, it is one of the rows of 42_sequencer.md R140, or a wait. -/
theorem engineTurn_next (a : Answers) (s t : State) (h : engineTurn a s = .next t) :
    (s.phase = .idle ∧ s.opValid = false ∧ t = s.sample a) ∨
    (s.phase = .idle ∧ s.opValid = true ∧
      exec (decodeOp s.op s.opRxPin s.opTxPin) { s.sample a with opValid := false } = .next t) ∨
    (s.phase = .tx ∧ sendByte (s.sample a) = .next t) ∨
    (s.phase = .rx ∧ receiveByte (s.sample a) = .next t) ∨
    (s.phase = .check ∧ t = judgeFrame s.rxbuf (s.sample a)) := by
  cases hp : s.phase
  · cases ho : s.opValid
    · rw [engineTurn_wait a s hp ho] at h
      exact .inl ⟨rfl, rfl, by cases h; rfl⟩
    · rw [engineTurn_accept a s hp ho] at h
      exact .inr (.inl ⟨rfl, rfl, h⟩)
  · rw [engineTurn_tx a s hp] at h
    exact .inr (.inr (.inl ⟨rfl, h⟩))
  · rw [engineTurn_rx a s hp] at h
    exact .inr (.inr (.inr (.inl ⟨rfl, h⟩)))
  · rw [engineTurn_check a s hp] at h
    exact .inr (.inr (.inr (.inr ⟨rfl, by cases h; rfl⟩)))

/-- If an accepted operation answers a next state: the accept steps of 42_sequencer.md R141 to R144. -/
theorem exec_decodeOp_next (op : BitVec 2) (rx tx : Pin) (s t : State) (hp : s.phase = .idle)
    (h : exec (decodeOp op rx tx) s = .next t) :
    (op = 0 ∧ t = (s.openChannel rx tx).complete .ok 0) ∨
    (op = 1 ∧ s.chOpen = true ∧ t = s.rxFlush.complete .ok 0) ∨
    (op = 1 ∧ s.chOpen = false ∧ t = s.complete .noInit 0) ∨
    (op = 2 ∧ s.chOpen = true ∧ t = s.beginExchange) ∨
    (op = 2 ∧ s.chOpen = false ∧ t = s.complete .noInit 0) := by
  rcases decodeOp_cases op rx tx with ⟨ho, hd⟩ | ⟨ho, hd⟩ | ⟨ho, hd⟩ | ⟨ho, hd⟩ <;> rw [hd] at h
  · rcases execInit_cases rx tx s with ⟨_, he⟩ | ⟨hn, _⟩
    · exact .inl ⟨ho, by rw [exec, he] at h; cases h; rfl⟩
    · exact absurd hp hn
  · rcases execFlush_cases s with ⟨_, hc, he⟩ | ⟨_, hc, he⟩ | ⟨hn, _⟩
    · exact .inr (.inl ⟨ho, hc, by rw [exec, he] at h; cases h; rfl⟩)
    · exact .inr (.inr (.inl ⟨ho, hc, by rw [exec, he] at h; cases h; rfl⟩))
    · exact absurd hp hn
  · rw [exec, execReadCo2, hp] at h
    simp only [acceptRead] at h
    cases hc : s.chOpen <;> rw [hc] at h <;> cases h
    · exact .inr (.inr (.inr (.inr ⟨ho, rfl, by simp⟩)))
    · exact .inr (.inr (.inr (.inl ⟨ho, rfl, by simp⟩)))
  · cases h

/-- A run of two lists of moves is a run of the first and then of the second. -/
theorem runMoves_append (ms ns : List Move) (s t : State) (h : runMoves ms s = .next t) :
    runMoves (ms ++ ns) s = runMoves ns t := by
  induction ms generalizing s with
  | nil => cases h; rfl
  | cons m ms ih =>
    simp only [runMoves, List.cons_append] at h ⊢
    split at h
    · exact ih _ h
    · cases h
    · cases h

/-- The first move of a run. -/
theorem runMoves_cons (m : Move) (ms : List Move) (s s' : State) (h : performMove m s = .next s') :
    runMoves (m :: ms) s = runMoves ms s' := by
  simp [runMoves, h]

/-- The first move of a run that goes on past it. -/
theorem runMoves_cons_next (m : Move) (ms : List Move) (s t : State) (h : runMoves (m :: ms) s = .next t) :
    ∃ s', performMove m s = .next s' ∧ runMoves ms s' = .next t := by
  simp only [runMoves] at h
  split at h
  · exact ⟨_, ‹_›, h⟩
  · cases h
  · cases h

/-- A run to the first `done` = 1 of at least one move begins in a state with `done` = 0. -/
theorem runToDone_cons (m : Move) (ms : List Move) (s t : State) (h : runToDone (m :: ms) s = some t) :
    s.done = false ∧ ∃ s', performMove m s = .next s' ∧ runToDone ms s' = some t := by
  simp only [runToDone] at h
  split at h
  · cases h
  · rename_i hd
    refine ⟨by simpa using hd, ?_⟩
    split at h
    · exact ⟨_, ‹_›, h⟩
    · cases h

/-- What is counted along a run is counted move by move. -/
theorem countRun_cons (p : Move → State → Bool) (m : Move) (ms : List Move) (s s' : State)
    (h : performMove m s = .next s') :
    countRun p (m :: ms) s = (if p m s then 1 else 0) + countRun p ms s' := by
  simp [countRun, h]

/-- The bytes that arrive along two runs. -/
theorem arrivals_append (ms ns : List Move) : arrivals (ms ++ ns) = arrivals ms ++ arrivals ns := by
  induction ms with
  | nil => rfl
  | cons m ms ih => cases m <;> simp [arrivals, ih]

end Sys2Proof.Machine
end

