-- ==== Sys2Proof/Machine/Program.lean ====
section
/-! DEFINITION. HOST programs and ENV scripts as moves of the machine (30_encoding.md R84 to R86). -/

namespace Sys2Proof.Machine

open Sys2Proof

/-- HOST presents an operation: the code and the operands of its encoding (30_encoding.md R79). The frames are no
host operations; nothing is presented for them. -/
def presentMoves (i : Instr) : List Move :=
  match encode i with
  | .hop op rx tx => [.host true op rx tx]
  | .frame _ => []

/-- ENV's answers in one turn: an acknowledgement, a refusal, or a tick. -/
def answersWith (ack nak tick : Bool) : Answers :=
  { Answers.quiet with txAck := ack, txNak := nak, tick := tick }

/-- The turns that send the frame: `tx: ack*k` and the `nak` if there is one (30_encoding.md R86). -/
def writeMoves (e : EnvScript) : List Move :=
  List.replicate e.acks (.engine (answersWith true false false)) ++
    (if e.nak then [.engine (answersWith false true false)] else [])

/-- The turns that read the response: the `rx` bytes arrive; with `timeout` every byte there is taken and then
`ticks` ticks pass with `rxq` empty, otherwise nine bytes are taken and judged (30_encoding.md R86). -/
def readMoves (ticks : Nat) (e : EnvScript) : List Move :=
  e.rx.map .arrive ++
    (if e.timeout then
      List.replicate (e.pre.length + e.rx.length) (.engine .quiet) ++
        List.replicate ticks (.engine (answersWith false false true))
     else List.replicate (frameLen + 1) (.engine .quiet))

/-- One line of a program under its script: the operation is presented and accepted, an exchange runs as the script
says, and the `late` bytes arrive after it (30_encoding.md R84, R86). The `pre` bytes are already in `rxq`. -/
def lineMoves (ticks : Nat) (i : Instr) (e : EnvScript) : List Move :=
  presentMoves i ++ [.engine { Answers.quiet with opened := e.opened }] ++
    (if i = .readCo2 then writeMoves e ++ (if e.acks = frameLen then readMoves ticks e else []) else []) ++
    e.late.map .arrive

end Sys2Proof.Machine
end

