-- ==== Sys2Proof/Tests/Slice0.lean ====
section
/-! SUPPORT. Tests on fixed values, from the spec's encodings and test vectors (95_test_vectors.md), and for each
statement with hypotheses a concrete state and operands that meet them. -/

namespace Sys2Proof.Tests

open Sys2Proof
open Sys2Proof.Machine

/-! ## Helpers -/

/-- The parameters of 95_test_vectors.md: the defaults, and three ticks. -/
def cfg3 : Config :=
  { chPresentAtReset := false, autoFlush := false, readTimeoutTicks := 3, tmoW := 2, baud := 9600, pinW := 8 }

/-- The reset state under those parameters, with an empty transport buffer (95_test_vectors.md V5.1). -/
def closed : State := State.resetWith cfg3 [] []

/-- An open, idle channel on pins 4 and 5. -/
def opened : State := { closed with chOpen := true, rxPin := 4, txPin := 5 }

/-- An open, idle channel on which HOST presents READCO2. -/
def ready : State := { opened with opValid := true, op := 2 }

/-- An exchange in TX with the byte at `i` on offer. -/
def sendingAt (i : BitVec 4) (sent : List Byte) : State :=
  { opened with phase := .tx, idx := i, txbuf := commandFrame, txlog := sent }

/-- An exchange in RX with the byte at `i` to come. -/
def receivingAt (i : BitVec 4) (tmo : Nat) (q : List Byte) : State :=
  { opened with
    phase := .rx, idx := i, txbuf := commandFrame, txlog := commandFrame.toList, tmo := tmo, rxq := q }

/-- An exchange in CHECK with a frame received. -/
def checking (r : Frame) : State :=
  { opened with phase := .check, txbuf := commandFrame, txlog := commandFrame.toList, tmo := 3, rxbuf := r }

/-- `RF(656)` (95_test_vectors.md S8, V2.25). -/
def rf656 : Frame := #v[0xFF, 0x86, 0x02, 0x90, 0x00, 0x00, 0x00, 0x00, 0xE8]

/-- What holds of the next state, if there is one. -/
def nextHolds (o : Host.Outcome State Fault Refusal) (p : State → Bool) : Bool :=
  match o with
  | .next s => p s
  | _ => false

/-- ENV accepts an offered byte. -/
def ack : Answers := { Answers.quiet with txAck := true }

/-- ENV refuses an offered byte. -/
def nak : Answers := { Answers.quiet with txNak := true }

/-- A tick of the timebase. -/
def tick : Answers := { Answers.quiet with tick := true }

/-! ## Well-formedness: each check refuses an ill-formed term -/

theorem test_wf_reserved_refused : Instr.reservedOp3.wellFormed = false := by decide
theorem test_wf_bad_checksum_refused :
    (Instr.rfReadCo2 0x02 0x90 0 0 0 0 0xE9).wellFormed = false := by decide
theorem test_wf_wide_pin_refused : (Instr.init 256 5).wellFormed = false := by decide
theorem test_wf_wide_pin_accepted_at_width_nine : (Instr.init 256 5).wellFormed (pinW := 9) = true := by decide
theorem test_wf_response_accepted : (Instr.rfReadCo2 0x02 0x90 0 0 0 0 0xE8).wellFormed = true := by decide
theorem test_wf_script_nine_acks_then_nak_refused :
    (EnvScript.mk [] 9 true [] false [] []).wellFormed = false := by decide
theorem test_wf_script_timeout_without_frame_refused :
    (EnvScript.mk [] 3 true [] true [] []).wellFormed = false := by decide
theorem test_wf_config_timeout_zero_refused : ¬({ cfg3 with readTimeoutTicks := 0 } : Config).wf := by decide
theorem test_wf_config_timer_too_narrow_refused : ¬({ cfg3 with tmoW := 1 } : Config).wf := by decide

/-! ## Decoding: words written out from the encodings (30_encoding.md R74, R75, R79, R80) -/

theorem test_decode_init : decodeBytes [0b00, 0x10, 0x11] = .ok (.init 16 17) := by rfl
theorem test_decode_flush : decodeBytes [0b01, 0, 0] = .ok .flush := by rfl
theorem test_decode_readCo2 : decodeBytes [0b10, 0, 0] = .ok .readCo2 := by rfl
theorem test_decode_reserved : decodeBytes [0b11, 0, 0] = .ok .reservedOp3 := by rfl
theorem test_decode_command_frame :
    decodeTableWord 72 0xFF0186000000000079 = some .cfReadCo2 := by decide
theorem test_decode_response_frame :
    decodeTableWord 72 0xFF8602904711223344 = some (.rfReadCo2 0x02 0x90 0x47 0x11 0x22 0x33 0x44) := by decide
/-- V2.58: the echo is wrong. -/
theorem test_decode_wrong_echo : (decodeFrame #v[0xFF, 0, 0, 0, 0, 0, 0, 0, 0]).toOption = none := by decide
/-- V2.11: a command frame of another code is no row of the table. -/
theorem test_decode_other_command :
    (match decodeFrame #v[0xFF, 0x01, 0x87, 0, 0, 0, 0, 0, 0x78] with
      | .error e => some e | .ok _ => none) = some .otherCommand := by decide
theorem test_decode_wrong_length : (decodeBytes [0xFF, 0x01]).toOption = none := by decide

/-! ## Codec vectors -/

/-- V2.7: a sum that is a multiple of 256 has checksum 0 (90 C1). -/
theorem test_checksum_multiple_of_256 : checksum #v[0xFF, 0x86, 0x7A, 0, 0, 0, 0, 0, 0] = 0x00 := by decide
/-- V2.12: BUILD for a code with data bytes. -/
theorem test_build_with_data :
    build 0x99 0x00 0x00 0x07 0xD0 0x00 = #v[0xFF, 0x01, 0x99, 0x00, 0x00, 0x07, 0xD0, 0x00, 0x8F] := by decide

/-- Another instance of R5's table (00_scope.md R5, 93 section 3): with sensor address 2 the frame's checksum is
0x78 by hand, since 0x02 + 0x86 = 0x88. -/
theorem test_build_other_address :
    commandFrame { Protocol.stated with addr := 0x02 } = #v[0xFF, 0x02, 0x86, 0, 0, 0, 0, 0, 0x78] := by decide

/-! ## One step of each instruction (95_test_vectors.md sections 2.2, 2.3) -/

/-- V3.3, with ENV leaving two bytes in the buffer (P1). -/
theorem test_init_opens :
    nextHolds (exec (.init 4 5) { closed with opened := [0x12, 0x34] }) (fun t =>
      t.chOpen && t.rxPin == 4 && t.txPin == 5 && t.status == 0x00 && t.done && t.cfgValid &&
        t.rxq == [0x12, 0x34]) = true := by decide
/-- V3.15: INIT on an open channel overwrites the pins. -/
theorem test_init_again :
    nextHolds (exec (.init 16 17) opened) (fun t => t.chOpen && t.rxPin == 16 && t.txPin == 17) = true := by decide
/-- V3.2. -/
theorem test_flush_closed :
    nextHolds (exec .flush { closed with rxq := [1] }) (fun t =>
      t.status == 0xFF && t.rxq == [1] && !t.flushReq) = true := by decide
/-- V3.4, V3.16. -/
theorem test_flush_open :
    nextHolds (exec .flush { opened with rxq := [0x12, 0x34], reading := 656, rdValid := true }) (fun t =>
      t.status == 0x00 && t.rxq == [] && t.flushReq && t.reading == 0 && !t.rdValid) = true := by decide
/-- V3.1. -/
theorem test_read_closed :
    nextHolds (exec .readCo2 closed) (fun t => t.status == 0xFF && t.done && t.txlog == []) = true := by decide
/-- V4.1. -/
theorem test_read_open :
    nextHolds (exec .readCo2 { opened with status := 0xFB, done := true, rxq := [7] }) (fun t =>
      t.phase == .tx && t.idx == 0 && t.status == 0 && !t.done && t.rxq == [7] &&
        t.txbuf == #v[0xFF, 0x01, 0x86, 0, 0, 0, 0, 0, 0x79]) = true := by decide
/-- V4.3. -/
theorem test_command_frame_last_byte :
    nextHolds (exec .cfReadCo2 { sendingAt 8 [] with txAck := true }) (fun t =>
      t.phase == .rx && t.idx == 0 && t.tmo == 3 && t.txlog == [0x79]) = true := by decide
/-- V4.5: `tx_nak` wins. -/
theorem test_command_frame_nak_wins :
    nextHolds (exec .cfReadCo2 { sendingAt 5 [] with txAck := true, txNak := true }) (fun t =>
      t.phase == .idle && t.idx == 0 && t.status == 0xFE && t.done && t.txlog == []) = true := by decide
/-- V4.11. -/
theorem test_response_frame_good :
    nextHolds (exec (.rfReadCo2 0x02 0x90 0 0 0 0 0xE8) (checking rf656)) (fun t =>
      t.phase == .idle && t.status == 0x00 && t.reading == 656 && t.rdValid) = true := by decide
/-- V4.12. -/
theorem test_response_frame_corrupt :
    nextHolds (exec (.rfReadCo2 0x02 0x90 0 0 0 0 0xE9) (checking rf656)) (fun t =>
      t.status == 0xFB && t.reading == 0 && !t.rdValid && t.done) = true := by decide

/-! ## One step of the machine -/

/-- V4.8: a waiting byte wins over a tick. -/
theorem test_step_byte_before_tick :
    nextHolds (step { receivingAt 5 1 [0x00] with script := [.engine tick] }) (fun t =>
      t.phase == .rx && t.idx == 6 && t.tmo == 1 && t.rxq == []) = true := by decide
/-- V4.7: the last tick expires the window and keeps what was received. -/
theorem test_step_timeout :
    nextHolds (step { receivingAt 5 1 [] with rxbuf := rf656, script := [.engine tick] }) (fun t =>
      t.phase == .idle && t.idx == 0 && t.tmo == 0 && t.status == 0xFD && t.rxbuf == rf656) = true := by decide
/-- V2.55: the command frame looped back is rejected, not sent again. -/
theorem test_step_looped_back_command :
    nextHolds (step { checking commandFrame with script := [.engine .quiet] }) (fun t =>
      t.status == 0xFC && t.txlog == commandFrame.toList) = true := by decide
/-- V4.15: an operation presented in RX waits. -/
theorem test_step_busy_operation_waits :
    nextHolds (step { receivingAt 0 3 [] with opValid := true, op := 1, script := [.engine .quiet] }) (fun t =>
      t.phase == .rx && t.opValid && t.op == 1) = true := by decide
/-- V5.2: reset in TX; the sent bytes' exchange never completes. -/
theorem test_step_reset_in_tx :
    nextHolds (step { sendingAt 4 [0xFF, 0x01, 0x86, 0x00] with script := [.rst [9]] }) (fun t =>
      t.phase == .idle && !t.chOpen && !t.done && t.rxq == [9] && t.txlog == []) = true := by decide
/-- The port has `PIN_W` wires for a pin, of any width the platform gives it (00_scope.md R5, 93 U16). -/
theorem test_step_pin_width :
    nextHolds (step { opened with script := [.host true 0 256 300], cfg := { cfg3 with pinW := 9 } }) (fun t =>
      t.opRxPin == 256 && t.opTxPin == 300) = true ∧
    nextHolds (step { opened with script := [.host true 0 256 300] }) (fun t =>
      t.opRxPin == 0 && t.opTxPin == 44) = true := by decide
/-- The machine at another instance of the table: address 2 goes on the wire (00_scope.md R5, 93 section 3). -/
theorem test_machine_other_address :
    nextHolds (stepAt { Protocol.stated with addr := 0x02 } { ready with script := [.engine .quiet] }) (fun t =>
      t.phase == .tx && t.txbuf == #v[0xFF, 0x02, 0x86, 0, 0, 0, 0, 0, 0x78]) = true := by decide
/-- A word placed for the host's check runs as the first step from reset. -/
theorem test_placed_command_frame_runs :
    nextHolds (step (State.reset.withFetchWord 72 0xFF0186000000000079)) (fun t =>
      t.txlog == [0xFF] && t.idx == 1) = true := by decide

/-! ## Programs and scripts as notation (30_encoding.md R84 to R86) -/

theorem test_boot_expands : (HostLine.boot 4 5).expand = [.init 4 5, .flush] := by decide
theorem test_init_text : (HostLine.init 4 5).text = "INIT 4, 5" := by decide
/-- V3.6's script: three acknowledgements and a refusal. -/
theorem test_script_moves :
    lineMoves 3 .readCo2 (EnvScript.mk [] 3 true [] false [] []) =
      [.host true 2 0 0, .engine .quiet, .engine ack, .engine ack, .engine ack, .engine nak] := by decide

end Sys2Proof.Tests
end

