-- ==== Sys2Proof/Tests/Witness.lean ====
section
/-! SUPPORT. For every statement with hypotheses, a concrete state and operands that meet them: `witness_<name>`.
Where a statement has several clauses, each has its case here. -/

namespace Sys2Proof.Tests

open Sys2Proof
open Sys2Proof.Machine

/-! ## The codec and the encodings -/

theorem witness_ChecksumCatchesSingleChanges :
    chkOk rf656 = true ∧ (0xE9 : Byte) ≠ rf656[8] ∧ (1 ≤ (1 : Fin 9).val ∧ (0x87 : Byte) ≠ rf656[1]) ∧
      ((7 : Fin 9).val ≤ 7 ∧ (0x01 : Byte) ≠ rf656[7]) ∧
      (((rf656.set 2 0x03).set 3 0x8F)[8] = rf656[8] ∧
        sum7 ((rf656.set 2 0x03).set 3 0x8F) % 0x100 = sum7 rf656 % 0x100) := by decide

theorem witness_ValidateTestsFramingFirst :
    (¬(commandFrame[0] = 0xFF ∧ commandFrame[1] = 0x86)) ∧
    ((rf656[0] = 0xFF ∧ rf656[1] = 0x86) ∧ rf656[8] = checksum rf656) ∧
    (((rf656.set 8 0)[0] = 0xFF ∧ (rf656.set 8 0)[1] = 0x86) ∧
      (rf656.set 8 0)[8] ≠ checksum (rf656.set 8 0)) := by decide

theorem witness_DecodeInvertsEncode :
    (Instr.init 255 0).pinsFit = true ∧ Instr.flush.pinsFit = true ∧
      (Instr.rfReadCo2 0x02 0x90 0 0 0 0 0xE8).pinsFit = true := by decide

theorem witness_DecodedWordReencodes :
    decode (.frame commandFrameBytes) = .ok .cfReadCo2 ∧
    decode (.frame rf656) = .ok (.rfReadCo2 0x02 0x90 0 0 0 0 0xE8) ∧
    decode (.hop 0 4 5) = .ok (.init 4 5) ∧ decode (.hop 1 4 5) = .ok .flush := ⟨rfl, rfl, rfl, rfl⟩

/-! ## The step and the instructions -/

theorem witness_StepPerformsNextMove :
    { ready with script := [.arrive 1] }.script = Move.arrive 1 :: [] ∧ ready.script = [] := ⟨rfl, rfl⟩

theorem witness_TurnRunsDecodedInstruction :
    (ready.phase = .idle ∧ ready.opValid = true ∧
      decode (.hop ready.op ready.opRxPin ready.opTxPin) = .ok .readCo2) ∧
    (opened.phase = .idle ∧ opened.opValid = false) ∧
    ((sendingAt 0 []).phase = .tx ∧ decode (.frame (sendingAt 0 []).txbuf) = .ok .cfReadCo2) ∧
    (receivingAt 0 3 []).phase = .rx ∧
    ((checking rf656).phase = .check ∧
      decode (.frame (checking rf656).rxbuf) = .ok (.rfReadCo2 0x02 0x90 0 0 0 0 0xE8)) :=
  ⟨⟨rfl, rfl, rfl⟩, ⟨rfl, rfl⟩, ⟨rfl, rfl⟩, rfl, ⟨rfl, rfl⟩⟩

theorem witness_InitCompletes : closed.phase = .idle ∧ opened.phase = .idle := ⟨rfl, rfl⟩

theorem witness_FlushCompletes :
    (opened.phase = .idle ∧ opened.chOpen = true) ∧ (closed.phase = .idle ∧ closed.chOpen = false) := by decide

theorem witness_ReadOnClosedChannelFails : closed.phase = .idle ∧ closed.chOpen = false := by decide

theorem witness_ReadOnOpenChannelStarts :
    (opened.phase = .idle ∧ opened.chOpen = true ∧ opened.cfg.autoFlush = false) ∧
    { opened with cfg := { cfg3 with autoFlush := true } }.cfg.autoFlush = true := by decide

theorem witness_AckSendsOfferedByte :
    ({ sendingAt 7 [] with txAck := true }.txbuf[7]? = some 0x00 ∧
      { sendingAt 8 [] with txAck := true }.txbuf[8]? = some 0x79) ∧
    ({ sendingAt 8 [] with txAck := true }.phase = .tx ∧ { sendingAt 8 [] with txAck := true }.txAck = true ∧
      { sendingAt 8 [] with txAck := true }.txNak = false) := by decide

theorem witness_NakEndsWithWriteFailure :
    { sendingAt 0 [] with txNak := true }.phase = .tx ∧ { sendingAt 0 [] with txNak := true }.txNak = true := by
  decide

theorem witness_WaitingByteIsStored :
    ((receivingAt 7 3 [5]).phase = .rx ∧ (receivingAt 7 3 [5]).idx.toNat < 9 ∧
      (receivingAt 7 3 [5]).rxq = 5 :: []) ∧
    ((receivingAt 8 3 [5, 6]).idx.toNat < 9 ∧ (receivingAt 8 3 [5, 6]).rxq = 5 :: [6]) := by decide

theorem witness_TickCountsDownOrExpires :
    ({ receivingAt 5 2 [] with tick := true }.phase = .rx ∧ { receivingAt 5 2 [] with tick := true }.rxq = [] ∧
      { receivingAt 5 2 [] with tick := true }.tick = true ∧ 1 < (receivingAt 5 2 []).tmo) ∧
    ¬ 1 < (receivingAt 5 1 []).tmo ∧
    ((sendingAt 4 []).phase ≠ .rx ∧
      nextHolds (performMove (.engine { Answers.quiet with tick := true }) (sendingAt 4 [])) (fun _ => true) = true) ∧
    ((receivingAt 4 3 [1]).rxq ≠ [] ∧
      nextHolds (performMove (.engine { Answers.quiet with tick := true }) (receivingAt 4 3 [1]))
        (fun _ => true) = true) := by decide

theorem witness_ResponseFrameIsJudged :
    (checking rf656).phase = .check ∧ (checking rf656).txbuf[2] = 0x86 ∧
      { checking rf656 with txbuf := unwrittenFrame }.txbuf[2] ≠ 0x86 := by decide

theorem witness_CheckJudgesReceivedBytes :
    (checking rf656).phase = .check ∧ (checking commandFrame).phase = .check ∧
      (validate rf656 (checking rf656).txbuf[2]).1 = .ok ∧
      (validate commandFrame (checking commandFrame).txbuf[2]).1 = .reject ∧
      (validate (rf656.set 8 0) (checking rf656).txbuf[2]).1 = .chk := by decide

theorem witness_ReadContinuesItsExchange :
    (sendingAt 0 []).phase = .tx ∧
    ((checking rf656).phase = .check ∧
      decode (.frame (checking rf656).rxbuf) = .ok (.rfReadCo2 0x02 0x90 0 0 0 0 0xE8)) ∧
    ¬((checking commandFrame).rxbuf[0] = 0xFF ∧
      (checking commandFrame).rxbuf[1] = (checking commandFrame).txbuf[2]) :=
  ⟨rfl, ⟨rfl, rfl⟩, by decide⟩

theorem witness_ReservedOperationIsRefused :
    { opened with opValid := true, op := 3 }.phase = .idle ∧ { opened with opValid := true, op := 3 }.op = 3 ∧
      { opened with opValid := true, op := 3 }.opValid = true := by decide

theorem witness_InstructionWaitsOutsideItsPhase :
    (receivingAt 0 3 []).phase ≠ .idle ∧ opened.phase ≠ .tx ∧
    ((sendingAt 0 []).txAck = false ∧ (sendingAt 0 []).txNak = false) ∧ opened.phase ≠ .check ∧
    ((receivingAt 0 3 []).phase = .rx ∧ (receivingAt 0 3 []).rxq = [] ∧ (receivingAt 0 3 []).tick = false) := by
  decide

theorem witness_IndexOutsideFrameFaults :
    ({ sendingAt 9 [] with txAck := true }.phase = .tx ∧ { sendingAt 9 [] with txAck := true }.txAck = true ∧
      { sendingAt 9 [] with txAck := true }.txNak = false ∧ 9 ≤ (sendingAt 9 []).idx.toNat) ∧
    ((receivingAt 9 3 [1]).phase = .rx ∧ (receivingAt 9 3 [1]).rxq ≠ [] ∧ 9 ≤ (receivingAt 9 3 [1]).idx.toNat) := by
  decide

/-! ## Moves: each witness is a move that is performed and makes the change the statement speaks of -/

/-- A move is performed and the next state satisfies `p`. -/
def Performed (m : Move) (s : State) (p : State → Bool) : Prop :=
  ∃ t : State, performMove m s = .next t ∧ p t = true

/-- How a move is seen to be performed: by evaluation. -/
theorem performed_of_nextHolds {m : Move} {s : State} {p : State → Bool}
    (h : nextHolds (performMove m s) p = true) : Performed m s p := by
  unfold nextHolds at h
  split at h
  · exact ⟨_, ‹_›, h⟩
  · cases h

theorem witness_TransitionsAreTheTable :
    Performed (.engine .quiet) ready (fun t => t.phase == .tx) ∧
    Performed (.engine ack) (sendingAt 8 []) (fun t => t.phase == .rx) ∧
    Performed (.engine .quiet) (receivingAt 8 3 [1]) (fun t => t.phase == .check) ∧
    Performed (.engine .quiet) (checking rf656) (fun t => t.phase == .idle) ∧
    Performed (.arrive 1) (checking rf656) (fun t => t.phase == .check) :=
  ⟨performed_of_nextHolds (by decide), performed_of_nextHolds (by decide), performed_of_nextHolds (by decide),
    performed_of_nextHolds (by decide), performed_of_nextHolds (by decide)⟩

theorem witness_UnnamedInputsChangeNothing :
    (Performed (.engine tick) (sendingAt 4 []) (fun _ => true) ∧ (sendingAt 4 []).phase ≠ .rx) ∧
    (Performed (.engine tick) (receivingAt 4 3 [1]) (fun _ => true) ∧ (receivingAt 4 3 [1]).rxq ≠ []) ∧
    ((receivingAt 4 3 [1]).phase ≠ .tx ∧ (receivingAt 4 3 [1]).phase ≠ .idle) :=
  ⟨⟨performed_of_nextHolds (by decide), by decide⟩, ⟨performed_of_nextHolds (by decide), by decide⟩, by decide⟩

theorem witness_OutputsAreFunctionsOfState :
    Performed (.engine .quiet) { ready with op := 1 } (fun t => t.flushReq) ∧
    Performed (.engine .quiet) { ready with op := 0 } (fun t => t.cfgValid) ∧
    Performed (.engine .quiet) ready (fun t => !t.flushReq && !t.cfgValid) :=
  ⟨performed_of_nextHolds (by decide), performed_of_nextHolds (by decide), performed_of_nextHolds (by decide)⟩

theorem witness_PresentedOperationWaitsUntilAccepted :
    Performed (.engine .quiet) ready (fun t => !t.opValid) ∧
    Performed (.engine .quiet) { receivingAt 0 3 [] with opValid := true } (fun t => t.opValid) :=
  ⟨performed_of_nextHolds (by decide), performed_of_nextHolds (by decide)⟩

theorem witness_ConfigurationIsNeverWritten :
    Performed (.engine .quiet) ready (fun _ => true) := performed_of_nextHolds (by decide)

theorem witness_HalfDuplexPhases :
    (sendingAt 0 []).outputs.txValid = true ∧ (receivingAt 0 3 [1]).outputs.rxTake = true := by decide

theorem witness_ChannelOpensByInitClosesByReset :
    Performed (.engine .quiet) { closed with opValid := true, op := 0 } (fun t => t.chOpen != closed.chOpen) :=
  performed_of_nextHolds (by decide)

theorem witness_PinsWrittenOnlyByInit :
    Performed (.engine .quiet) { opened with opValid := true, op := 0, opRxPin := 16 }
      (fun t => t.rxPin != opened.rxPin) := performed_of_nextHolds (by decide)

theorem witness_CommandBufferWrittenOnlyAtAcceptance :
    Performed (.engine .quiet) ready (fun t => t.txbuf != ready.txbuf) := performed_of_nextHolds (by decide)

theorem witness_ReceiveBufferWrittenByteByByte :
    Performed (.engine .quiet) (receivingAt 8 3 [1]) (fun t => t.rxbuf != (receivingAt 8 3 [1]).rxbuf) :=
  performed_of_nextHolds (by decide)

theorem witness_TransmitLogGrowsByOfferedByte :
    Performed (.engine ack) (sendingAt 8 []) (fun t => t.txlog == [0x79]) ∧
    Performed (.engine nak) (sendingAt 8 []) (fun t => t.txlog == []) :=
  ⟨performed_of_nextHolds (by decide), performed_of_nextHolds (by decide)⟩

theorem witness_ReceiveQueueChangesOnlyByItsRules :
    Performed (.engine .quiet) (receivingAt 0 3 [1, 2]) (fun t => t.rxq == [2]) ∧
    Performed (.engine .quiet) { ready with op := 1, rxq := [1] } (fun t => t.rxq == []) ∧
    Performed (.rst [7]) ready (fun t => t.rxq == [7]) :=
  ⟨performed_of_nextHolds (by decide), performed_of_nextHolds (by decide), performed_of_nextHolds (by decide)⟩

theorem witness_TimerLoadedAndCountedOnlyByItsRules :
    Performed (.engine ack) (sendingAt 8 []) (fun t => t.tmo == 3) ∧
    Performed (.engine tick) (receivingAt 0 3 []) (fun t => t.tmo == 2) :=
  ⟨performed_of_nextHolds (by decide), performed_of_nextHolds (by decide)⟩

/-! ## Invariants -/

theorem witness_ResetMeetsInvariants : cfg3.wf := by decide

/-- An open, idle channel meets the invariants. -/
theorem inv_ready : Inv ready where
  cfg_wf := by decide
  idx_le := by decide
  idx_rest := fun _ => rfl
  done_idle := fun _ => rfl
  busy_open := fun h => absurd rfl h
  status_code := ⟨.ok, rfl⟩
  valid_ok := fun h => Bool.noConfusion h
  invalid_zero := fun _ => rfl
  pending_zero := fun _ => ⟨rfl, rfl⟩
  txbuf_written := .inr rfl
  txbuf_busy := fun h => absurd rfl h
  tmo_fits := by decide
  pins_fit := by decide
  port_fits := by decide
  tmo_running := fun h => Phase.noConfusion h
  txlog_frames := ⟨[], ⟨[], rfl⟩, rfl⟩

theorem witness_StepKeepsInvariants :
    Inv ready ∧ nextHolds (step { ready with script := [.engine .quiet] }) (fun t => t.phase == .tx) = true :=
  ⟨inv_ready, by decide⟩

theorem witness_ReachableStatesMeetR155 :
    cfg3.wf ∧ ∃ t : State,
      Host.Core.run core 2 (State.resetWith cfg3 [1] [.host true 0 4 5, .engine .quiet]) = .next t :=
  ⟨by decide, _, rfl⟩

theorem witness_NoFaultUnderInvariants : Inv ready := inv_ready

theorem witness_LegalRunsNeverStop :
    Inv ready ∧ (ready.opValid = true → ready.op ≠ 3) ∧
      (([.engine .quiet, .host true 2 0 0, .engine nak] : List Move).all Move.legal) = true :=
  ⟨inv_ready, by decide, by decide⟩

theorem witness_ClosedChannelStaysSilent :
    closed.phase = .idle ∧ closed.chOpen = false ∧ closed.presentsInit = false ∧
    (([.host true 2 0 0, .engine .quiet, .arrive 5] : List Move).all
      fun m => !m.presentsInit && !m.isReset) = true ∧
    nextHolds (runMoves [.host true 2 0 0, .engine .quiet, .arrive 5] closed) (fun t => t.status == 0xFF) = true := by
  decide

theorem witness_IdleBuffersAreUnobservable :
    ready.phase = .idle ∧ ready.cfgValid = false ∧
      nextHolds (runMoves [.engine .quiet, .engine ack] ready) (fun t => t.idx == 1) = true := by decide

/-! ## Whole exchanges -/

/-- The ENGINE's state after the acceptance of READCO2 by `ready`. -/
def accepted : State :=
  { ready with opValid := false, phase := .tx, txbuf := commandFrame }

/-- The turns and arrivals of a successful exchange: nine acknowledgements, the nine bytes, nine bytes taken and the
check. -/
def goodExchange : List Move :=
  List.replicate 9 (.engine ack) ++ rf656.toList.map .arrive ++ List.replicate 10 (.engine .quiet)

theorem ready_accepts : performMove (.engine .quiet) ready = .next accepted := by rfl

theorem ready_readyToRead : ready.readyToRead := ⟨rfl, rfl, rfl, rfl⟩

/-- The shortest exchange, refused at once, and a successful one are runs to their first `done` = 1. -/
theorem witness_StepAndOperationLevelsAgree :
    ready.readyToRead ∧ performMove (.engine .quiet) ready = .next accepted ∧
    (([.engine nak] : List Move).all fun m => !m.isReset) = true ∧
    ((runToDone [.engine nak] accepted).map State.status = some 0xFE) ∧
    ((runToDone goodExchange accepted).map State.status = some 0x00) ∧
    ({ ready with op := 0 }.phase = .idle ∧ { ready with op := 0 }.opValid = true) ∧
    ({ closed with opValid := true, op := 2 }.chOpen = false) :=
  ⟨ready_readyToRead, ready_accepts, by decide, by decide, by decide, by decide, by decide⟩

theorem witness_ErrorPrecedence :
    closed.chOpen = false ∧ opened.chOpen = true ∧
      (readable rf656.toList opened).take 9 = rf656.toList := by decide

theorem witness_OutcomeTellsTransportEffects :
    ready.readyToRead ∧ performMove (.engine .quiet) ready = .next accepted ∧
    ((runToDone [.engine ack, .engine nak] accepted).map State.txlog = some [0xFF]) :=
  ⟨ready_readyToRead, ready_accepts, by decide⟩

theorem witness_SensorRoundTripReturnsValue :
    ready.readyToRead ∧
    SensorAnswers 656 0 0 0 0 ready (List.replicate 9 (.engine ack)) ((rf656.toList.take 8).map .arrive) 0xE8
      (List.replicate 10 (.engine .quiet)) ∧
    10 ≤ ((List.replicate 10 (.engine .quiet) : List Move).filter Move.isTurn).length :=
  ⟨ready_readyToRead,
    ⟨rfl, ⟨by decide, by decide, by decide, by decide⟩, by decide, by decide, by decide, by decide⟩, by decide⟩

theorem witness_ExchangeStepCounts :
    ready.readyToRead ∧ 1 ≤ ready.cfg.readTimeoutTicks ∧
    performMove (.engine .quiet) ready = .next accepted ∧ (goodExchange.all fun m => !m.isReset) = true ∧
    ((runToDone goodExchange accepted).map State.status = some 0x00) :=
  ⟨ready_readyToRead, by decide, ready_accepts, by decide, by decide⟩

theorem witness_ReadEndsWithinItsBound :
    (receivingAt 8 1 []).phase = .rx ∧ (receivingAt 8 1 []).idx.toNat ≤ 8 ∧
    (([.engine tick, .engine tick] : List Move).all fun m => !m.isReset) = true ∧
    (9 - (receivingAt 8 1 []).idx.toNat) + max 1 (receivingAt 8 1 []).tmo ≤
      (([.engine tick, .engine tick] : List Move).filter Move.ticks).length := by decide

theorem witness_WindowLastsItsTicks :
    (receivingAt 5 3 []).phase = .rx ∧ (receivingAt 5 3 []).rxq = [] ∧ 1 ≤ [tick].length ∧
    [tick].length < (receivingAt 5 3 []).tmo ∧ [tick, tick, tick].length = (receivingAt 5 3 []).tmo ∧
    ([tick, tick, tick].all fun a => a.tick) = true ∧
    { receivingAt 5 3 [] with script := [.engine tick] }.script = [tick].map Move.engine ++ [] ∧
    { receivingAt 5 3 [] with script := [.engine tick, .engine tick, .engine tick, .arrive 1] }.script =
      [tick, tick, tick].map Move.engine ++ [.arrive 1] := by decide

/-- READCO2 with a stale frame and one more byte in `rxq`, and the twenty turns of its exchange. -/
def readyStale : State :=
  { ready with
    rxq := rf656.toList ++ [1]
    script := .engine .quiet :: (List.replicate 9 ack ++ List.replicate 10 Answers.quiet).map .engine ++ [.arrive 2] }

theorem witness_NextNineBytesAreTheResponse :
    readyStale.readyToRead ∧ readyStale.cfg.autoFlush = false ∧ readyStale.rxq = rf656.toList ++ [1] ∧
    (List.replicate 9 ack).length = 9 ∧ ((List.replicate 9 ack).all fun a => a.txAck && !a.txNak) = true ∧
    (List.replicate 10 Answers.quiet).length = 10 ∧
    readyStale.script =
      .engine .quiet :: (List.replicate 9 ack ++ List.replicate 10 Answers.quiet).map .engine ++ [.arrive 2] :=
  ⟨⟨rfl, rfl, rfl, rfl⟩, by decide, rfl, by decide, by decide, by decide, rfl⟩

theorem witness_FlushLeavesOnlyLaterBytes :
    { ready with op := 1 }.phase = .idle ∧ { ready with op := 1 }.chOpen = true ∧
    { ready with op := 1 }.opValid = true ∧ { ready with op := 1 }.op = 1 ∧
    nextHolds (performMove (.engine .quiet) { ready with op := 1 }) (fun t => t.flushReq) = true ∧
    (([.arrive 5] : List Move).all fun m => !m.isTurn && !m.isReset) = true ∧
    nextHolds (runMoves [.engine .quiet, .arrive 5] { ready with op := 1, rxq := [9] })
      (fun u => u.rxq == [5]) = true := by decide

end Sys2Proof.Tests
end

section
/-! PROOFS, 20_memory.md: what the transport handshakes say about the phase (R63). -/

namespace Sys2Proof.Machine

open Sys2Proof

/-- 10_state.md R35: a byte is offered exactly in TX. -/
theorem State.outputs_txValid_iff (s : State) : s.outputs.txValid = true ↔ s.phase = .tx :=
  beq_iff_eq

/-- 10_state.md R36: a byte is taken exactly in RX while one waits in `rxq`. -/
theorem State.outputs_rxTake_iff (s : State) : s.outputs.rxTake = true ↔ s.phase = .rx ∧ s.rxq ≠ [] := by
  simp [State.outputs, State.rxTake, State.rxValid]

/-- Settles O37: each handshake fixes the phase, and TX and RX are different phases. -/
theorem halfDuplexPhases : Obligations.HalfDuplexPhases := by
  intro s
  have offer_in_tx : s.outputs.txValid = true → s.phase = .tx := s.outputs_txValid_iff.mp
  have take_in_rx : s.outputs.rxTake = true → s.phase = .rx := fun htake => (s.outputs_rxTake_iff.mp htake).1
  refine ⟨offer_in_tx, take_in_rx, ?_⟩
  rintro ⟨hoffer, htake⟩
  have tx_eq_rx : Phase.tx = Phase.rx := (offer_in_tx hoffer).symm.trans (take_in_rx htake)
  cases tx_eq_rx

end Sys2Proof.Machine
end

section
/-! PROOFS, 30_encoding.md: the value of a response frame (R77) and the reserved operation code (R80). -/

namespace Sys2Proof.Machine

open Sys2Proof

/-- Two bytes as high and low half fit sixteen bits: neither the product nor the sum of DECODE is cut off. -/
theorem toNat_high_mul_add_low (high low : Byte) :
    (high.setWidth 16 * 256#16 + low.setWidth 16).toNat = high.toNat * 256 + low.toNat := by
  simp only [BitVec.toNat_add, BitVec.toNat_mul, BitVec.toNat_setWidth, BitVec.toNat_ofNat]
  omega

/-- 30_encoding.md R77: the reading as a number, read unsigned from bytes 2 and 3. -/
theorem decodeReading_toNat (r : Frame) : (decodeReading r).toNat = r[2].toNat * 256 + r[3].toNat :=
  toNat_high_mul_add_low r[2] r[3]

/-- The reading is the high byte joined to the low byte: the bits of the one do not reach those of the other. -/
theorem decodeReading_eq_append (r : Frame) : decodeReading r = r[2] ++ r[3] := by
  apply BitVec.eq_of_toNat_eq
  calc (decodeReading r).toNat
      = r[2].toNat * 256 + r[3].toNat := decodeReading_toNat r
    _ = r[2].toNat <<< 8 ||| r[3].toNat := by
        rw [← Nat.shiftLeft_add_eq_or_of_lt r[3].isLt, Nat.shiftLeft_eq]
    _ = (r[2] ++ r[3]).toNat := (BitVec.toNat_append _ _).symm

/-- Settles O4: the number by arithmetic in sixteen bits, the two halves from the joined bytes. -/
theorem readingIsHighTimes256PlusLow : Obligations.ReadingIsHighTimes256PlusLow := by
  intro r
  have high_byte : (decodeReading r).extractLsb' 8 8 = r[2] := by
    rw [decodeReading_eq_append, BitVec.extractLsb'_append_eq_left]
  have low_byte : (decodeReading r).extractLsb' 0 8 = r[3] := by
    rw [decodeReading_eq_append, BitVec.extractLsb'_append_eq_right]
  exact ⟨decodeReading_toNat r, high_byte, low_byte⟩

/-- 30_encoding.md R80: the code 3 decodes to the reserved operation, whatever stands in the pin fields. -/
theorem decodeOp_opReserved (rx tx : Pin) : decodeOp Config.opReserved rx tx = .reservedOp3 := rfl

/-- 41_host_operations.md R129: the reserved operation has no meaning in any state. -/
theorem exec_reservedOp3 (s : State) : exec .reservedOp3 s = .refused .reservedOperation := rfl

/-- Settles O28: the turn that would accept the code 3 runs the reserved operation, and `exec` refuses that. -/
theorem reservedOperationIsRefused : Obligations.ReservedOperationIsRefused := by
  refine ⟨exec_reservedOp3, fun s a hidle hvalid hop => ?_⟩
  have decodes : decodeOp s.op s.opRxPin s.opTxPin = .reservedOp3 := by
    rw [hop]
    exact decodeOp_opReserved _ _
  calc performMove (.engine a) s
      = engineTurn a s := rfl
    _ = exec (decodeOp s.op s.opRxPin s.opTxPin) { s.sample a with opValid := false } :=
        engineTurn_accept a s hidle hvalid
    _ = .refused .reservedOperation := by rw [decodes, exec_reservedOp3]

end Sys2Proof.Machine
end

section
/-! PROOFS, 40_codec.md: the checksum (R101, R105), built frames (R103), VALIDATE (R107) and its round trip (R108). -/

namespace Sys2Proof.Machine

open Sys2Proof

/-! ## SUM7 after a write to one byte -/

/-- Byte 0 is outside the sum. -/
@[simp] theorem sum7_set_zero (f : Frame) (b : Byte) : sum7 (f.set 0 b) = sum7 f := by
  simp [sum7_eq]

/-- Byte 8 is outside the sum. -/
@[simp] theorem sum7_set_eight (f : Frame) (b : Byte) : sum7 (f.set 8 b) = sum7 f := by
  simp [sum7_eq]

/-- Writing one of the bytes 1 to 7 exchanges that byte's summand. -/
theorem sum7_set_summed (f : Frame) (i : Nat) (hi : i < frameLen) (b : Byte) (first : 1 ≤ i) (last : i ≤ 7) :
    sum7 (f.set i b) + f[i].toNat = sum7 f + b.toNat := by
  have index : i = 1 ∨ i = 2 ∨ i = 3 ∨ i = 4 ∨ i = 5 ∨ i = 6 ∨ i = 7 := by omega
  rcases index with rfl | rfl | rfl | rfl | rfl | rfl | rfl <;> simp [sum7_eq] <;> omega

/-! ## The checksum byte -/

/-- 40_codec.md R101: the checksum is the sum's low byte, negated. -/
theorem checksum_eq_neg (f : Frame) : checksum f = -BitVec.ofNat 8 (sum7 f) := by
  apply BitVec.eq_of_toNat_eq
  simp [checksum]

/-- 40_codec.md R101, the first formula. -/
theorem checksum_toNat (f : Frame) : (checksum f).toNat = (0x100 - sum7 f % 0x100) % 0x100 := by
  simp [checksum]

/-- Two frames have the same checksum exactly when their sums agree modulo 256. -/
theorem checksum_eq_iff (f g : Frame) : checksum f = checksum g ↔ sum7 f % 0x100 = sum7 g % 0x100 := by
  rw [← BitVec.toNat_inj, checksum_toNat, checksum_toNat]
  omega

/-- A byte is the checksum exactly when it brings the sum to a multiple of 256. -/
theorem eq_checksum_iff (f : Frame) (b : Byte) : b = checksum f ↔ (sum7 f + b.toNat) % 0x100 = 0 := by
  have fits : b.toNat < 256 := b.isLt
  rw [← BitVec.toNat_inj, checksum_toNat]
  omega

@[simp] theorem checksum_set_zero (f : Frame) (b : Byte) : checksum (f.set 0 b) = checksum f := by
  simp [checksum_eq_iff]

@[simp] theorem checksum_set_eight (f : Frame) (b : Byte) : checksum (f.set 8 b) = checksum f := by
  simp [checksum_eq_iff]

/-- Settles O1: subtraction, negation and complement are the negated low byte of the sum, which closes it to 0. -/
theorem checksumFormulasAgree : Obligations.ChecksumFormulasAgree := by
  intro f
  have by_subtraction := checksum_toNat f
  have by_negation : ((checksum f).toNat : Int) = (-(sum7 f : Int)) % 0x100 := by omega
  have by_complement : checksum f = ~~~ (BitVec.ofNat 8 (sum7 f)) + 1 := by
    rw [checksum_eq_neg, BitVec.neg_eq_not_add]
    rfl
  have sum_law : (sum7 f + (checksum f).toNat) % 0x100 = 0 := (eq_checksum_iff f _).mp rfl
  exact ⟨by_subtraction, by_negation, by_complement, sum_law, fun b0 b8 => by simp⟩

/-! ## CHKOK after a change -/

/-- 40_codec.md R105, the second form: the sum of bytes 1 to 8 is a multiple of 256. -/
theorem chkOk_iff_sum (r : Frame) : chkOk r = true ↔ (sum7 r + r[8].toNat) % 0x100 = 0 := by
  rw [chkOk_iff, eq_checksum_iff]

/-- CHKOK depends on byte 8 and on the sum modulo 256 only. -/
theorem chkOk_congr (r r' : Frame) (hbyte : r'[8] = r[8]) (hsum : sum7 r' % 0x100 = sum7 r % 0x100) :
    chkOk r' = chkOk r := by
  rw [Bool.eq_iff_iff, chkOk_iff, chkOk_iff, hbyte, (checksum_eq_iff r' r).mpr hsum]

/-- The checksum fits one byte 8 only. -/
theorem chkOk_set_eight_eq_false (r : Frame) (hr : chkOk r = true) (b : Byte) (hb : b ≠ r[8]) :
    chkOk (r.set 8 b) = false := by
  rw [chkOk_iff] at hr
  rw [Bool.eq_false_iff, ne_eq, chkOk_iff, checksum_set_eight, ← hr]
  simpa using hb

/-- The change of one summed byte is less than 256 in magnitude, so a sum that stays a multiple of 256 leaves the byte
as it was. -/
theorem chkOk_set_summed_eq_false (r : Frame) (hr : chkOk r = true) (i : Fin 9) (b : Byte)
    (first : 1 ≤ i.val) (last : i.val ≤ 7) (hb : b ≠ r[i]) : chkOk (r.set i b) = false := by
  have exchange : sum7 (r.set i b) + r[i].toNat = sum7 r + b.toNat :=
    sum7_set_summed r i i.isLt b first last
  have byte_eight : (r.set i b)[8] = r[8] := by
    have other : i.val ≠ 8 := by omega
    simp [other]
  have changed : b.toNat ≠ r[i].toNat := fun h => hb (BitVec.eq_of_toNat_eq h)
  have new_fits : b.toNat < 256 := b.isLt
  have old_fits : r[i].toNat < 256 := r[i].isLt
  rw [chkOk_iff_sum] at hr
  rw [Bool.eq_false_iff, ne_eq, chkOk_iff_sum, byte_eight]
  omega

/-- Settles O3: clause by clause from what a write does to the sum and to byte 8. -/
theorem checksumCatchesSingleChanges : Obligations.ChecksumCatchesSingleChanges := by
  intro r
  have start_unread (b : Byte) : chkOk (r.set 0 b) = chkOk r :=
    chkOk_congr r (r.set 0 b) (by simp) (by simp)
  exact ⟨chkOk_iff r, chkOk_iff_sum r, start_unread, chkOk_set_eight_eq_false r,
    chkOk_set_summed_eq_false r, chkOk_congr r⟩

/-! ## Frames with their checksum in place -/

/-- A frame whose byte 8 is written last, with the checksum of the others, is self-consistent: the checksum does not
read byte 8. -/
theorem set_checksum_consistent (f : Frame) :
    (f.set 8 (checksum f))[8] = checksum (f.set 8 (checksum f)) := by
  simp

/-- Settles O2: BUILD writes the checksum last, over a frame that has the header in place. -/
theorem builtFrameIsSelfConsistent : Obligations.BuiltFrameIsSelfConsistent := by
  intro cmd d0 d1 d2 d3 d4
  exact ⟨set_checksum_consistent _, rfl, rfl⟩

/-! ## VALIDATE -/

/-- Settles O5: the framing, then the checksum decides which answer of VALIDATE is given. -/
theorem validateTestsFramingFirst : Obligations.ValidateTestsFramingFirst := by
  intro r cmd
  rw [← frameOk_iff, ne_eq, ← chkOk_iff]
  rcases validate_cases r cmd with ⟨framing, answer⟩ | ⟨framing, sum, answer⟩ | ⟨framing, sum, answer⟩
  · simp [framing, answer]
  · simp [framing, sum, answer]
  · simp [framing, sum, answer]

/-- 30_encoding.md R76 and R77: the two data bytes of a well-formed response are the halves of its value. -/
theorem decodeReading_responseFrame (v : Ppm) (x4 x5 x6 x7 : Byte) :
    decodeReading (responseFrame v x4 x5 x6 x7) = v := by
  have high : (responseFrame v x4 x5 x6 x7)[2].toNat = v.toNat / 256 % 256 := rfl
  have low : (responseFrame v x4 x5 x6 x7)[3].toNat = v.toNat % 256 % 256 := rfl
  have fits : v.toNat < 65536 := v.isLt
  apply BitVec.eq_of_toNat_eq
  rw [decodeReading_toNat, high, low]
  omega

/-- Settles O6: a well-formed response passes both tests, so VALIDATE answers its decoded value. -/
theorem wellFormedResponseCarriesItsValue : Obligations.WellFormedResponseCarriesItsValue := by
  intro v x4 x5 x6 x7
  obtain ⟨-, -, accepts⟩ := validateTestsFramingFirst (responseFrame v x4 x5 x6 x7) 0x86
  rw [accepts ⟨rfl, rfl⟩ (set_checksum_consistent _), decodeReading_responseFrame]

end Sys2Proof.Machine
end

section
/-! PROOFS, 41_host_operations.md: the completion of INIT (R121) and FLUSH (R122), and what each outcome of READCO2
has done to the transport (R127). -/

namespace Sys2Proof.Machine

open Sys2Proof

/-! ## INIT and FLUSH -/

/-- Settles O17: in IDLE the step is the opening of the channel followed by the completion with `E_OK`. -/
theorem initCompletes : Obligations.InitCompletes := by
  intro rx tx s hidle
  rcases execInit_cases rx tx s with ⟨-, completes⟩ | ⟨busy, -⟩
  · exact completes
  · exact absurd hidle busy

/-- Settles O18: in IDLE the state of the channel decides whether the buffer is flushed. -/
theorem flushCompletes : Obligations.FlushCompletes := by
  intro s hidle
  rcases execFlush_cases s with ⟨-, isOpen, completes⟩ | ⟨-, isClosed, completes⟩ | ⟨busy, -⟩
  · rw [if_pos isOpen]
    exact completes
  · rw [if_neg (by simp [isClosed])]
    exact completes
  · exact absurd hidle busy

/-! ## The acceptance of READCO2 (42_sequencer.md R143, R144) -/

/-- The turn that takes a presented READCO2 from the port of an idle ENGINE. -/
theorem performMove_accept_readCo2 (s : State) (a : Answers) (hidle : s.phase = .idle) (hvalid : s.opValid = true)
    (hop : s.op = 2) :
    performMove (.engine a) s = .next (acceptRead { s.sample a with opValid := false }) := by
  have decodes : decodeOp s.op s.opRxPin s.opTxPin = .readCo2 := by rw [hop]; rfl
  calc performMove (.engine a) s
      = exec (decodeOp s.op s.opRxPin s.opTxPin) { s.sample a with opValid := false } :=
        engineTurn_accept a s hidle hvalid
    _ = .next (acceptRead { s.sample a with opValid := false }) := by
        rw [decodes]
        simp [exec, execReadCo2, hidle]

/-- READCO2 on an open channel begins the exchange. -/
theorem acceptRead_open (s : State) (h : s.chOpen = true) : acceptRead s = s.beginExchange := by
  simp [acceptRead, h]

/-- READCO2 on a closed channel ends at once with `E_NOINIT`. -/
theorem acceptRead_closed (s : State) (h : s.chOpen = false) : acceptRead s = s.complete .noInit 0 := by
  simp [acceptRead, h]

/-- What the exchange finds in `rxq`: nothing after `AUTO_FLUSH`, and what stood there otherwise. -/
theorem State.rxq_beginExchange (s : State) : s.beginExchange.rxq = readable [] s := by
  cases h : s.cfg.autoFlush <;> simp [State.beginExchange, readable, h]

/-- A byte that arrives is the last of those a read can take. -/
theorem readable_append (arrived more : List Byte) (s : State) :
    readable (arrived ++ more) s = readable arrived s ++ more := by
  simp [readable]

/-! ## The four bits of `idx` -/

/-- Below 8 the next index does not wrap around. -/
theorem toNat_idx_succ (i : BitVec 4) (h : i < 8) : (i + 1).toNat = i.toNat + 1 := by bv_omega

/-- The last index of a frame is 8. -/
theorem toNat_idx_last (i : BitVec 4) (hle : i.toNat ≤ 8) (h : ¬ i < 8) : i.toNat = 8 := by bv_omega

/-! ## What the exchange in progress has sent and taken -/

theorem State.sentSoFar_tx {u : State} (h : u.phase = .tx) :
    u.sentSoFar = commandFrameBytes.toList.take u.idx.toNat := by simp [State.sentSoFar, h]

theorem State.sentSoFar_rx {u : State} (h : u.phase = .rx) : u.sentSoFar = commandFrameBytes.toList := by
  simp [State.sentSoFar, h]

theorem State.sentSoFar_check {u : State} (h : u.phase = .check) : u.sentSoFar = commandFrameBytes.toList := by
  simp [State.sentSoFar, h]

/-- How many bytes the exchange in progress has taken from `rxq`. -/
def State.takenSoFar (u : State) : Nat :=
  match u.phase with
  | .idle => 0
  | .tx => 0
  | .rx => u.idx.toNat
  | .check => frameLen

theorem State.takenSoFar_tx {u : State} (h : u.phase = .tx) : u.takenSoFar = 0 := by simp [State.takenSoFar, h]

theorem State.takenSoFar_rx {u : State} (h : u.phase = .rx) : u.takenSoFar = u.idx.toNat := by
  simp [State.takenSoFar, h]

theorem State.takenSoFar_check {u : State} (h : u.phase = .check) : u.takenSoFar = 9 := by
  simp [State.takenSoFar, h]

/-- The books of an exchange that was accepted at `s` and is in progress at `u`, when `arrived` has come into the
buffer and `taken` has been read from it. -/
structure Exchanging (s : State) (arrived taken : List Byte) (u : State) : Prop where
  busy    : u.phase ≠ .idle
  pending : u.done = false
  idx_le  : u.idx.toNat ≤ 8
  built   : u.txbuf = commandFrameBytes
  sent    : u.txlog = s.txlog ++ u.sentSoFar
  supply  : readable arrived s = taken ++ u.rxq
  count   : taken.length = u.takenSoFar

/-- The rows of R127's table that an exchange can end in: `E_WRITE`, `E_READ`, `E_REJECT` or `E_CHK`, `E_OK`. -/
def ReadOutcome (sent taken : List Byte) (t : State) : Prop :=
  (t.status = 0xFE ∧ sent.length ≤ 8 ∧ sent = commandFrameBytes.toList.take sent.length ∧ taken = [] ∧
      t.reading = 0 ∧ t.rdValid = false) ∨
    (t.status = 0xFD ∧ sent = commandFrameBytes.toList ∧ taken.length ≤ 8 ∧ t.reading = 0 ∧ t.rdValid = false) ∨
    ((t.status = 0xFC ∨ t.status = 0xFB) ∧ sent = commandFrameBytes.toList ∧ taken.length = 9 ∧
      t.reading = 0 ∧ t.rdValid = false) ∨
    (t.status = 0x00 ∧ sent = commandFrameBytes.toList ∧ taken.length = 9 ∧
      t.reading = t.rxbuf[2] ++ t.rxbuf[3] ∧ t.rdValid = true)

/-- The books of an exchange that was accepted at `s` and has ended at `t`. -/
def Exchanged (s : State) (arrived : List Byte) (t : State) : Prop :=
  ∃ sent taken : List Byte,
    t.txlog = s.txlog ++ sent ∧ readable arrived s = taken ++ t.rxq ∧ t.txbuf = commandFrameBytes ∧
    ReadOutcome sent taken t

/-- The books of an exchange that was accepted at `s`, in progress or at its end. -/
def ExchangeBooks (s : State) (arrived : List Byte) (u : State) : Prop :=
  (∃ taken, Exchanging s arrived taken u) ∨ (u.done = true ∧ Exchanged s arrived u)

/-- At its acceptance an exchange has sent and taken nothing. -/
theorem Exchanging.beginExchange (s : State) (a : Answers) :
    Exchanging s [] [] { s.sample a with opValid := false }.beginExchange where
  busy := by simp
  pending := by simp
  idx_le := by simp
  built := by simp [commandFrame_eq]
  sent := by simp [State.sentSoFar_tx]
  supply := (State.rxq_beginExchange { s.sample a with opValid := false }).symm
  count := by simp [State.takenSoFar_tx]

section
variable {s u v : State} {arrived taken : List Byte}

/-! ### Moves that are no step of the ENGINE -/

/-- ENV's answers at the port are no part of the books. -/
theorem Exchanging.sample (h : Exchanging s arrived taken u) (a : Answers) :
    Exchanging s arrived taken (u.sample a) :=
  ⟨h.busy, h.pending, h.idx_le, h.built, h.sent, h.supply, h.count⟩

/-- What HOST drives at the command port is no part of the books. -/
theorem Exchanging.present (h : Exchanging s arrived taken u) (valid : Bool) (op : BitVec 2) (rx tx : Pin) :
    Exchanging s arrived taken (u.present valid op rx tx) :=
  ⟨h.busy, h.pending, h.idx_le, h.built, h.sent, h.supply, h.count⟩

/-- An arriving byte joins what the read can take. -/
theorem Exchanging.arrive (h : Exchanging s arrived taken u) (b : Byte) :
    Exchanging s (arrived ++ [b]) taken (u.arrived b) where
  busy := h.busy
  pending := h.pending
  idx_le := h.idx_le
  built := h.built
  sent := h.sent
  supply := by simp [readable_append, h.supply]
  count := h.count

/-! ### TX (42_sequencer.md R145, R146) -/

/-- The byte on offer in TX is the command frame's at `idx`. -/
theorem Exchanging.offered (h : Exchanging s arrived taken u) :
    u.offered = commandFrameBytes.toList[u.idx.toNat]? := by
  simp [State.offered, frameGet, h.built]

/-- An accepted byte: one more of the frame is sent, and after the ninth the whole of it. -/
theorem Exchanging.acknowledged (h : Exchanging s arrived taken u) (htx : u.phase = .tx) (b : Byte)
    (hb : u.offered = some b) : Exchanging s arrived taken (u.txWrite b).afterSent := by
  have sent_succ : u.txlog ++ [b] = s.txlog ++ commandFrameBytes.toList.take (u.idx.toNat + 1) := by
    rw [h.sent, State.sentSoFar_tx htx, List.take_add_one, ← h.offered, hb, List.append_assoc]
    rfl
  have none_taken : taken.length = 0 := h.count.trans (State.takenSoFar_tx htx)
  rcases afterSent_cases (u.txWrite b) with ⟨more, next⟩ | ⟨last, next⟩ <;> rw [next]
  · have idx_succ := toNat_idx_succ u.idx more
    exact
      { busy := h.busy
        pending := h.pending
        idx_le := idx_succ.trans_le (Nat.succ_le_of_lt more)
        built := h.built
        sent := by
          rw [State.sentSoFar_tx (by exact htx)]
          exact idx_succ ▸ sent_succ
        supply := h.supply
        count := none_taken.trans (State.takenSoFar_tx (by exact htx)).symm }
  · have idx_last := toNat_idx_last u.idx h.idx_le last
    exact
      { busy := nofun
        pending := h.pending
        idx_le := Nat.zero_le 8
        built := h.built
        sent := by
          rw [idx_last] at sent_succ
          exact sent_succ
        supply := h.supply
        count := none_taken }

/-- A refused byte ends the exchange with `E_WRITE`. -/
theorem Exchanging.refused (h : Exchanging s arrived taken u) (htx : u.phase = .tx) :
    Exchanged s arrived (u.complete .write 0) := by
  have count_sent : u.sentSoFar.length = u.idx.toNat := by
    rw [State.sentSoFar_tx htx]
    exact List.length_take_of_le (Nat.le_succ_of_le h.idx_le)
  have none_taken : taken = [] := List.eq_nil_of_length_eq_zero (h.count.trans (State.takenSoFar_tx htx))
  refine ⟨u.sentSoFar, taken, h.sent, h.supply, h.built, .inl ⟨rfl, ?_, ?_, none_taken, rfl, rfl⟩⟩
  · exact count_sent ▸ h.idx_le
  · rw [count_sent]
    exact State.sentSoFar_tx htx

/-- The transmit step keeps the books. -/
theorem Exchanging.books_sendByte (h : Exchanging s arrived taken u) (htx : u.phase = .tx)
    (hv : sendByte u = .next v) : ExchangeBooks s arrived v := by
  rcases sendByte_next u v hv with ⟨-, rfl⟩ | ⟨-, -, b, offers, rfl⟩ | ⟨-, -, rfl⟩
  · exact .inr ⟨rfl, h.refused htx⟩
  · exact .inl ⟨taken, h.acknowledged htx b offers⟩
  · exact .inl ⟨taken, h⟩

/-! ### RX (42_sequencer.md R147, R148) -/

/-- A stored byte: one more is taken, and after the ninth the frame is complete. -/
theorem Exchanging.stored (h : Exchanging s arrived taken u) (hrx : u.phase = .rx) (b : Byte) (rest : List Byte)
    (f : Frame) (hq : u.rxq = b :: rest) :
    Exchanging s arrived (taken ++ [b]) { u with rxbuf := f, rxq := rest }.afterStored := by
  have sent_all : u.txlog = s.txlog ++ commandFrameBytes.toList := by rw [h.sent, State.sentSoFar_rx hrx]
  have supply_rest : readable arrived s = (taken ++ [b]) ++ rest := by simp [h.supply, hq]
  have count_succ : (taken ++ [b]).length = u.idx.toNat + 1 := by
    simp [h.count, State.takenSoFar_rx hrx]
  rcases afterStored_cases { u with rxbuf := f, rxq := rest } with ⟨more, next⟩ | ⟨last, next⟩ <;> rw [next]
  · have idx_succ := toNat_idx_succ u.idx more
    exact
      { busy := h.busy
        pending := h.pending
        idx_le := idx_succ.trans_le (Nat.succ_le_of_lt more)
        built := h.built
        sent := by rw [State.sentSoFar_rx (by exact hrx)]; exact sent_all
        supply := supply_rest
        count := by rw [State.takenSoFar_rx (by exact hrx)]; exact count_succ.trans idx_succ.symm }
  · have idx_last := toNat_idx_last u.idx h.idx_le last
    exact
      { busy := nofun
        pending := h.pending
        idx_le := Nat.zero_le 8
        built := h.built
        sent := sent_all
        supply := supply_rest
        count := by rw [idx_last] at count_succ; exact count_succ }

/-- An expired window ends the exchange with `E_READ`. -/
theorem Exchanging.expired (h : Exchanging s arrived taken u) (hrx : u.phase = .rx) :
    Exchanged s arrived ({ u with tmo := 0 }.complete .read 0) := by
  have some_taken : taken.length ≤ 8 := by
    rw [h.count, State.takenSoFar_rx hrx]
    exact h.idx_le
  exact ⟨u.sentSoFar, taken, h.sent, h.supply, h.built,
    .inr (.inl ⟨rfl, State.sentSoFar_rx hrx, some_taken, rfl, rfl⟩)⟩

/-- The receive step keeps the books. -/
theorem Exchanging.books_receiveByte (h : Exchanging s arrived taken u) (hrx : u.phase = .rx)
    (hv : receiveByte u = .next v) : ExchangeBooks s arrived v := by
  rcases receiveByte_next u v hv with ⟨b, rest, f, hq, -, rfl⟩ | ⟨-, -, rfl⟩ | ⟨-, -, rfl⟩
  · exact .inl ⟨taken ++ [b], h.stored hrx b rest f hq⟩
  · rcases countTick_cases u with ⟨-, next⟩ | ⟨-, next⟩ <;> rw [next]
    · exact .inl ⟨taken, h.busy, h.pending, h.idx_le, h.built, h.sent, h.supply, h.count⟩
    · exact .inr ⟨rfl, h.expired hrx⟩
  · exact .inl ⟨taken, h⟩

/-! ### CHECK (42_sequencer.md R149) -/

/-- The check step ends the exchange as VALIDATE judges the nine bytes. -/
theorem Exchanging.judged (h : Exchanging s arrived taken u) (hcheck : u.phase = .check) :
    Exchanged s arrived (judgeFrame u.rxbuf u) := by
  have sent_all := State.sentSoFar_check hcheck
  have all_taken : taken.length = 9 := h.count.trans (State.takenSoFar_check hcheck)
  unfold judgeFrame
  rcases validate_cases u.rxbuf u.sentCommand with ⟨-, answer⟩ | ⟨-, -, answer⟩ | ⟨-, -, answer⟩ <;> rw [answer]
  · exact ⟨u.sentSoFar, taken, h.sent, h.supply, h.built,
      .inr (.inr (.inl ⟨.inl rfl, sent_all, all_taken, rfl, rfl⟩))⟩
  · exact ⟨u.sentSoFar, taken, h.sent, h.supply, h.built,
      .inr (.inr (.inl ⟨.inr rfl, sent_all, all_taken, rfl, rfl⟩))⟩
  · exact ⟨u.sentSoFar, taken, h.sent, h.supply, h.built,
      .inr (.inr (.inr ⟨rfl, sent_all, all_taken, decodeReading_eq_append u.rxbuf, rfl⟩))⟩

/-! ### The whole exchange -/

/-- A turn of the ENGINE keeps the books of the exchange in progress. -/
theorem Exchanging.books_engineTurn (h : Exchanging s arrived taken u) (a : Answers)
    (hv : engineTurn a u = .next v) : ExchangeBooks s arrived v := by
  rcases engineTurn_next a u v hv with ⟨hidle, -⟩ | ⟨hidle, -⟩ | ⟨htx, sends⟩ | ⟨hrx, receives⟩ | ⟨hcheck, rfl⟩
  · exact absurd hidle h.busy
  · exact absurd hidle h.busy
  · exact (h.sample a).books_sendByte htx sends
  · exact (h.sample a).books_receiveByte hrx receives
  · exact .inr ⟨by simp [judgeFrame], (h.sample a).judged hcheck⟩

/-- Every move but reset keeps the books of the exchange in progress. -/
theorem Exchanging.books_performMove (h : Exchanging s arrived taken u) (m : Move) (hm : m.isReset = false)
    (hv : performMove m u = .next v) : ExchangeBooks s (arrived ++ arrivals [m]) v := by
  cases m with
  | host valid op rx tx =>
    cases hv
    exact .inl ⟨taken, by simpa [arrivals] using h.present valid op rx tx⟩
  | engine a => simpa [arrivals] using h.books_engineTurn a hv
  | arrive b =>
    cases hv
    exact .inl ⟨taken, h.arrive b⟩
  | rst q => cases hm

end

/-- The books hold at the end of every exchange. The run stops at the first `done` = 1, so each move is made while the
exchange is in progress. -/
theorem ExchangeBooks.exchanged {s t : State} (ms : List Move) (hms : (ms.all fun m => !m.isReset) = true)
    {u : State} {arrived : List Byte} (h : ExchangeBooks s arrived u) (ht : runToDone ms u = some t) :
    Exchanged s (arrived ++ arrivals ms) t := by
  induction ms generalizing u arrived with
  | nil =>
    have ⟨hdone, hut⟩ : u.done = true ∧ u = t := by simpa [runToDone] using ht
    rcases h with ⟨taken, going⟩ | ⟨-, ended⟩
    · exact absurd hdone (by simp [going.pending])
    · simpa [arrivals, ← hut] using ended
  | cons m ms ih =>
    obtain ⟨hpending, v, hv, hrest⟩ := runToDone_cons m ms u t ht
    simp only [List.all_cons, Bool.and_eq_true, Bool.not_eq_true'] at hms
    obtain ⟨hm, hms⟩ := hms
    rcases h with ⟨taken, going⟩ | ⟨hdone, -⟩
    · have ended := ih hms (going.books_performMove m hm hv) hrest
      rwa [List.append_assoc, ← arrivals_append] at ended
    · simp [hpending] at hdone

/-- Settles O54: an exchange begins with its books in order and every move keeps them; on a closed channel the
acceptance is the end. -/
theorem outcomeTellsTransportEffects : Obligations.OutcomeTellsTransportEffects := by
  constructor
  · intro s s1 t a ms ⟨hidle, hopen, hvalid, hop⟩ hs1 hms ht
    have accepts := performMove_accept_readCo2 s a hidle hvalid hop
    cases hs1.symm.trans (accepts.trans (congrArg _ (acceptRead_open _ hopen)))
    have starts : ExchangeBooks s [] _ := .inl ⟨[], Exchanging.beginExchange s a⟩
    exact starts.exchanged ms hms ht
  · intro s a hidle hvalid hop hclosed
    have accepts := performMove_accept_readCo2 s a hidle hvalid hop
    exact ⟨_, accepts.trans (congrArg _ (acceptRead_closed _ hclosed)), rfl, rfl, rfl, rfl, rfl, rfl⟩

end Sys2Proof.Machine
end

section
/-! PROOFS, 42_sequencer.md: an exchange move by move, up to the move that ends it (R140, R153, R158). -/

namespace Sys2Proof.Machine

open Sys2Proof

/-! ## Runs, extended at their end -/

/-- What is counted along a run and in one move more. -/
theorem countRun_concat (p : Move → State → Bool) (ms : List Move) (m : Move) (s u : State)
    (h : runMoves ms s = .next u) :
    countRun p (ms ++ [m]) s = countRun p ms s + if p m u then 1 else 0 := by
  induction ms generalizing s with
  | nil =>
    cases h
    simp only [List.nil_append, countRun, Nat.zero_add]
    cases performMove m u <;> rfl
  | cons m' ms ih =>
    obtain ⟨s', hs', hrest⟩ := runMoves_cons_next m' ms s u h
    rw [List.cons_append, countRun_cons p m' _ s s' hs', countRun_cons p m' ms s s' hs', ih s' hrest, Nat.add_assoc]

/-- A run of one move more. -/
theorem runMoves_concat (ms : List Move) (m : Move) (s u v : State) (h : runMoves ms s = .next u)
    (hv : performMove m u = .next v) : runMoves (ms ++ [m]) s = .next v := by
  rw [runMoves_append ms [m] s u h, runMoves_cons m [] u v hv]
  rfl

/-- A run to the first `done` = 1 stops where `done` = 1. -/
theorem runToDone_of_done {ms : List Move} {s t : State} (hdone : s.done = true) (h : runToDone ms s = some t) :
    ms = [] ∧ s = t := by
  cases ms with
  | nil => exact ⟨rfl, by simpa [runToDone, hdone] using h⟩
  | cons m ms =>
    obtain ⟨pending, -⟩ := runToDone_cons m ms s t h
    simp [hdone] at pending

/-- What every move before the first `done` = 1 keeps (`Going`, of the moves made and the state they lead to) holds
where the last move is made, and that move ends the operation. -/
theorem runToDone_last (Going : List Move → State → Prop) {s1 : State}
    (keeps : ∀ (past : List Move) (m : Move) (u v : State), runMoves past s1 = .next u → Going past u →
      m.isReset = false → performMove m u = .next v → v.done = false → Going (past ++ [m]) v)
    {past ms : List Move} {u t : State} (hrun : runMoves past s1 = .next u) (going : Going past u)
    (pending : u.done = false) (hms : (ms.all fun m => !m.isReset) = true) (ht : runToDone ms u = some t) :
    ∃ (before : List Move) (m : Move) (v : State), past ++ ms = before ++ [m] ∧ runMoves before s1 = .next v ∧
      Going before v ∧ m.isReset = false ∧ performMove m v = .next t ∧ t.done = true := by
  induction ms generalizing past u with
  | nil => simp [runToDone, pending] at ht
  | cons m ms ih =>
    obtain ⟨-, v, hv, hrest⟩ := runToDone_cons m ms u t ht
    simp only [List.all_cons, Bool.and_eq_true, Bool.not_eq_true'] at hms
    obtain ⟨hm, hms⟩ := hms
    cases hdone : v.done
    · have later := ih (runMoves_concat past m s1 u v hrun hv) (keeps past m u v hrun going hm hv hdone) hdone hms hrest
      rwa [List.append_assoc] at later
    · obtain ⟨rfl, rfl⟩ := runToDone_of_done hdone hrest
      exact ⟨past, m, u, rfl, hrun, going, hm, hv, hdone⟩

/-! ## The moves of an exchange -/

/-- What a move other than reset does while an exchange is in progress at `u`: HOST and ENV move, the ENGINE waits, or
it takes one of the steps TX-NAK, TX-ACK, RX-BYTE, RX-TICK (which counts or expires) and CHECK (42_sequencer.md R145 to
R150, R153). -/
inductive ExchangeMove (u : State) : Move → State → Prop where
  | present (valid : Bool) (op : BitVec 2) (rx tx : Pin) :
      ExchangeMove u (.host valid op rx tx) (u.present valid op rx tx)
  | arrive (b : Byte) : ExchangeMove u (.arrive b) (u.arrived b)
  | wait (a : Answers) (idles : isEngineStep (.engine a) u = false) : ExchangeMove u (.engine a) (u.sample a)
  | refuse (a : Answers) (htx : u.phase = .tx) (hnak : a.txNak = true) :
      ExchangeMove u (.engine a) ((u.sample a).complete .write 0)
  | accept (a : Answers) (b : Byte) (htx : u.phase = .tx) (hnak : a.txNak = false) (hack : a.txAck = true)
      (offers : (u.sample a).offered = some b) : ExchangeMove u (.engine a) ((u.sample a).txWrite b).afterSent
  | store (a : Answers) (b : Byte) (rest : List Byte) (f : Frame) (hrx : u.phase = .rx) (hq : u.rxq = b :: rest)
      (hf : frameSet u.rxbuf u.idx b = some f) :
      ExchangeMove u (.engine a) { u.sample a with rxbuf := f, rxq := rest }.afterStored
  | count (a : Answers) (hrx : u.phase = .rx) (hq : u.rxq = []) (htick : a.tick = true) (more : 1 < u.tmo) :
      ExchangeMove u (.engine a) { u.sample a with tmo := u.tmo - 1 }
  | expire (a : Answers) (hrx : u.phase = .rx) (hq : u.rxq = []) (htick : a.tick = true) (last : u.tmo ≤ 1) :
      ExchangeMove u (.engine a) ({ u.sample a with tmo := 0 }.complete .read 0)
  | judge (a : Answers) (hcheck : u.phase = .check) :
      ExchangeMove u (.engine a) (judgeFrame u.rxbuf (u.sample a))

/-- A turn in TX is one of the moves of an exchange. -/
theorem exchangeMove_of_sendByte {u v : State} {a : Answers} (htx : u.phase = .tx)
    (h : sendByte (u.sample a) = .next v) : ExchangeMove u (.engine a) v := by
  rcases sendByte_next _ v h with ⟨hnak, rfl⟩ | ⟨hnak, hack, b, offers, rfl⟩ | ⟨hnak, hack, rfl⟩
  · exact .refuse a htx hnak
  · exact .accept a b htx hnak hack offers
  · exact .wait a (by simp_all [isEngineStep])

/-- A turn in RX is one of the moves of an exchange. -/
theorem exchangeMove_of_receiveByte {u v : State} {a : Answers} (hrx : u.phase = .rx)
    (h : receiveByte (u.sample a) = .next v) : ExchangeMove u (.engine a) v := by
  rcases receiveByte_next _ v h with ⟨b, rest, f, hq, hf, rfl⟩ | ⟨hq, htick, rfl⟩ | ⟨hq, htick, rfl⟩
  · exact .store a b rest f hrx hq hf
  · rcases countTick_cases (u.sample a) with ⟨more, next⟩ | ⟨last, next⟩ <;> rw [next]
    · exact .count a hrx hq htick more
    · exact .expire a hrx hq htick last
  · exact .wait a (by simp_all [isEngineStep, State.rxValid])

/-- Every move but reset made while an exchange is in progress is one of its moves. -/
theorem exchangeMove_of_performMove {u v : State} {m : Move} (busy : u.phase ≠ .idle) (hm : m.isReset = false)
    (h : performMove m u = .next v) : ExchangeMove u m v := by
  cases m with
  | host valid op rx tx => cases h; exact .present valid op rx tx
  | arrive b => cases h; exact .arrive b
  | rst q => cases hm
  | engine a =>
    rcases engineTurn_next a u v h with ⟨hidle, -⟩ | ⟨hidle, -⟩ | ⟨htx, sends⟩ | ⟨hrx, receives⟩ | ⟨hcheck, rfl⟩
    · exact absurd hidle busy
    · exact absurd hidle busy
    · exact exchangeMove_of_sendByte htx sends
    · exact exchangeMove_of_receiveByte hrx receives
    · exact .judge a hcheck

/-! ## What is counted in one move -/

/-- A move that is no step of the ENGINE is none of its four kinds of step, and TX-ACK is one of the first kind. -/
theorem not_counted_of_not_isEngineStep {m : Move} {u : State} (h : isEngineStep m u = false) :
    isTxAck m u = false ∧ isTxStep m u = false ∧ isRxByte m u = false ∧ isRxTick m u = false ∧
    isCheck m u = false := by
  cases m with
  | engine a => cases hp : u.phase <;> simp_all [isEngineStep, isTxAck, isTxStep, isRxByte, isRxTick, isCheck]
  | _ => exact ⟨rfl, rfl, rfl, rfl, rfl⟩

/-- Outside IDLE every step of the ENGINE is of exactly one of the four kinds. -/
theorem isEngineStep_eq_sum {m : Move} {u : State} (busy : u.phase ≠ .idle) :
    (if isEngineStep m u then 1 else 0) =
      (if isTxStep m u then 1 else 0) + (if isRxByte m u then 1 else 0) + (if isRxTick m u then 1 else 0) +
        (if isCheck m u then 1 else 0) := by
  cases m with
  | engine a =>
    cases hp : u.phase with
    | idle => exact absurd hp busy
    | tx => simp [isEngineStep, isTxStep, isRxByte, isRxTick, isCheck, hp]
    | rx => cases hv : u.rxValid <;> simp [isEngineStep, isTxStep, isRxByte, isRxTick, isCheck, hp, hv]
    | check => simp [isEngineStep, isTxStep, isRxByte, isRxTick, isCheck, hp]
  | _ => rfl

end Sys2Proof.Machine
end

section
/-! PROOFS, 42_sequencer.md: the step level and the operation level agree (R154). -/

namespace Sys2Proof.Machine

open Sys2Proof

/-! ## The receive buffer -/

/-- No byte stored leaves the buffer as it is. -/
theorem storeBytes_nil (f : Frame) : storeBytes [] f = f := by
  ext i hi
  simp [storeBytes]

/-- One byte more, stored at the index after those before it. -/
theorem storeBytes_concat {bs : List Byte} {b : Byte} {f g : Frame} {i : BitVec 4} (hi : bs.length = i.toNat)
    (h : frameSet (storeBytes bs f) i b = some g) : g = storeBytes (bs ++ [b]) f := by
  unfold frameSet at h
  split at h
  · cases h
    ext j hj
    simp only [storeBytes, Vector.getElem_set, Vector.getElem_ofFn, ← hi, List.getElem?_append]
    rcases Nat.lt_trichotomy j bs.length with below | rfl | above
    · simp [below, below.ne']
    · simp
    · have past_end : j - bs.length ≠ 0 := (Nat.sub_pos_of_lt above).ne'
      simp [above.ne, above.not_gt, past_end]
  · cases h

/-! ## READCO2 at the operation level, outcome by outcome -/

/-- The state of the operation level after `write` has answered `w` (41_host_operations.md R123, lines 1 to 3). -/
def State.afterWrite (w : Nat) (arrived : List Byte) (s : State) : State :=
  { s with
    txbuf := commandFrame, rxq := readable arrived s, txlog := s.txlog ++ commandFrame.toList.take w }

/-- The state of the operation level after `read` has answered `k` bytes. -/
def State.afterRead (k : Nat) (s : State) : State :=
  { s with rxbuf := storeBytes (s.rxq.take k) s.rxbuf, rxq := s.rxq.drop k }

/-- Reading nothing changes nothing. -/
theorem State.afterRead_zero (s : State) : s.afterRead 0 = s := by
  simp [State.afterRead, storeBytes_nil]

/-- Line 0 of R123: on a closed channel READCO2 ends at once. -/
theorem opReadCo2_closed (w k : Nat) (arrived : List Byte) (s : State) (hclosed : s.chOpen = false) :
    opReadCo2 w k arrived s = s.complete .noInit 0 := by
  simp [opReadCo2, hclosed]

/-- Fewer than nine bytes written: `E_WRITE`, with nothing read. -/
theorem opReadCo2_write (w k : Nat) (arrived : List Byte) (s : State) (hopen : s.chOpen = true) (hw : w < 9) :
    opReadCo2 w k arrived s = (s.afterWrite w arrived).complete .write 0 := by
  simp [opReadCo2, hopen, hw, State.afterWrite]

/-- Fewer than nine bytes read: `E_READ`. -/
theorem opReadCo2_read (w k : Nat) (arrived : List Byte) (s : State) (hopen : s.chOpen = true) (hw : 9 ≤ w)
    (hk : k < 9) :
    opReadCo2 w k arrived s = ((s.afterWrite w arrived).afterRead k).complete .read 0 := by
  simp [opReadCo2, hopen, hw.not_gt, hk, State.afterWrite, State.afterRead]

/-- Nine bytes written and read: the tests of R123 are those of VALIDATE, in its order. -/
theorem opReadCo2_judged (w k : Nat) (arrived : List Byte) (s : State) (hopen : s.chOpen = true) (hw : 9 ≤ w)
    (hk : 9 ≤ k) :
    opReadCo2 w k arrived s =
      judgeFrame ((s.afterWrite w arrived).afterRead k).rxbuf ((s.afterWrite w arrived).afterRead k) := by
  have command : ((s.afterWrite w arrived).afterRead k).sentCommand = commandFrame[Config.cmdPos] := rfl
  unfold judgeFrame
  rw [command]
  rcases validate_cases ((s.afterWrite w arrived).afterRead k).rxbuf commandFrame[Config.cmdPos] with
    ⟨framing, answer⟩ | ⟨framing, sum, answer⟩ | ⟨framing, sum, answer⟩ <;>
  · rw [answer]
    simp_all [opReadCo2, hw.not_gt, hk.not_gt, State.afterWrite, State.afterRead, State.completeWith,
      State.sentCommand]

/-! ## What completion leaves of a state -/

/-- Two states agree on what completion keeps of the view: all of it but the phase, the index and the result. -/
structure AgreeOnKept (u v : State) : Prop where
  chOpen : u.chOpen = v.chOpen
  rxPin  : u.rxPin = v.rxPin
  txPin  : u.txPin = v.txPin
  txbuf  : u.txbuf = v.txbuf
  rxbuf  : u.rxbuf = v.rxbuf
  rxq    : u.rxq = v.rxq
  txlog  : u.txlog = v.txlog

section
variable {u v : State}

/-- ENV's answers at the port are not in the view. -/
theorem AgreeOnKept.sample (h : AgreeOnKept u v) (a : Answers) : AgreeOnKept (u.sample a) v :=
  ⟨h.chOpen, h.rxPin, h.txPin, h.txbuf, h.rxbuf, h.rxq, h.txlog⟩

/-- Completion makes the views equal. -/
theorem AgreeOnKept.complete (h : AgreeOnKept u v) (c : Code) (value : Ppm) :
    (u.complete c value).view = (v.complete c value).view := by
  simp [State.view, h.chOpen, h.rxPin, h.txPin, h.txbuf, h.rxbuf, h.rxq, h.txlog]

/-- So does completion with a reading. -/
theorem AgreeOnKept.completeReading (h : AgreeOnKept u v) (value : Ppm) :
    (u.completeReading value).view = (v.completeReading value).view := by
  simp [State.view, h.chOpen, h.rxPin, h.txPin, h.txbuf, h.rxbuf, h.rxq, h.txlog]

/-- So does the judgement of `rxbuf`, which is one or the other. -/
theorem AgreeOnKept.judgeFrame (h : AgreeOnKept u v) :
    (judgeFrame u.rxbuf u).view = (judgeFrame v.rxbuf v).view := by
  have command : u.sentCommand = v.sentCommand := by simp [State.sentCommand, h.txbuf]
  unfold Machine.judgeFrame State.completeWith
  rw [h.rxbuf, command]
  split
  · exact h.completeReading _
  · exact h.complete _ _

end

/-! ## The simulation -/

/-- The exchange accepted at `s`, whose first state is `s1`, has come to `u` by the moves `past` and has read `taken`:
its books are in order, the counted steps are the bytes on the wire and the bytes read, and `rxbuf` holds these. -/
structure Followed (s s1 : State) (past : List Move) (taken : List Byte) (u : State) : Prop where
  books  : Exchanging s (arrivals past) taken u
  acks   : u.txlog.length = s.txlog.length + countRun isTxAck past s1
  bytes  : taken.length = countRun isRxByte past s1
  stored : u.rxbuf = storeBytes taken s.rxbuf
  chOpen : u.chOpen = s.chOpen
  rxPin  : u.rxPin = s.rxPin
  txPin  : u.txPin = s.txPin

/-- An exchange in progress has come from its acceptance. -/
def Following (s s1 : State) (past : List Move) (u : State) : Prop := ∃ taken, Followed s s1 past taken u

/-- The exchange just accepted. -/
theorem Followed.beginExchange (s : State) (a : Answers) :
    Followed s { s.sample a with opValid := false }.beginExchange [] []
      { s.sample a with opValid := false }.beginExchange where
  books := Exchanging.beginExchange s a
  acks := by simp [countRun]
  bytes := rfl
  stored := by simp [storeBytes_nil]
  chOpen := by simp
  rxPin := by simp
  txPin := by simp

section
variable {s s1 u v t : State} {past : List Move} {taken : List Byte} {m : Move}

/-- What has been sent is as long as the count of TX-ACK steps. -/
theorem Followed.length_sentSoFar (h : Followed s s1 past taken u) :
    u.sentSoFar.length = countRun isTxAck past s1 := by
  have sent := congrArg List.length h.books.sent
  rw [List.length_append, h.acks] at sent
  omega

/-- In TX the TX-ACK steps are as many as `idx` says, and nothing has been taken. -/
theorem Followed.counts_tx (h : Followed s s1 past taken u) (htx : u.phase = .tx) :
    countRun isTxAck past s1 = u.idx.toNat ∧ countRun isRxByte past s1 = 0 := by
  rw [← h.length_sentSoFar, ← h.bytes, h.books.count, State.takenSoFar_tx htx, State.sentSoFar_tx htx]
  exact ⟨List.length_take_of_le (Nat.le_succ_of_le h.books.idx_le), rfl⟩

/-- In RX there have been nine TX-ACK steps, and as many RX-BYTE steps as `idx` says. -/
theorem Followed.counts_rx (h : Followed s s1 past taken u) (hrx : u.phase = .rx) :
    countRun isTxAck past s1 = 9 ∧ countRun isRxByte past s1 = u.idx.toNat := by
  rw [← h.length_sentSoFar, ← h.bytes, h.books.count, State.takenSoFar_rx hrx, State.sentSoFar_rx hrx]
  exact ⟨rfl, rfl⟩

/-- In CHECK there have been nine steps of each. -/
theorem Followed.counts_check (h : Followed s s1 past taken u) (hcheck : u.phase = .check) :
    countRun isTxAck past s1 = 9 ∧ countRun isRxByte past s1 = 9 := by
  rw [← h.length_sentSoFar, ← h.bytes, h.books.count, State.takenSoFar_check hcheck, State.sentSoFar_check hcheck]
  exact ⟨rfl, rfl⟩

/-- 42_sequencer.md R154: `w`, the TX-ACK steps, and `k`, the RX-BYTE steps, at any moment of an exchange. -/
theorem Followed.counts_le (h : Followed s s1 past taken u) :
    countRun isTxAck past s1 ≤ 9 ∧ countRun isRxByte past s1 ≤ 9 ∧
    (countRun isTxAck past s1 < 9 → countRun isRxByte past s1 = 0) := by
  have idx_le := h.books.idx_le
  cases hp : u.phase with
  | idle => exact absurd hp h.books.busy
  | tx => have ⟨w, k⟩ := h.counts_tx hp; omega
  | rx => have ⟨w, k⟩ := h.counts_rx hp; omega
  | check => have ⟨w, k⟩ := h.counts_check hp; omega

/-- One move more, whose step is counted where it sends or takes a byte. -/
theorem Followed.extend (h : Followed s s1 past taken u) (hrun : runMoves past s1 = .next u) {taken' : List Byte}
    (books : Exchanging s (arrivals (past ++ [m])) taken' v)
    (acks : v.txlog.length = u.txlog.length + if isTxAck m u then 1 else 0)
    (bytes : taken'.length = taken.length + if isRxByte m u then 1 else 0)
    (stored : v.rxbuf = storeBytes taken' s.rxbuf)
    (chOpen : v.chOpen = u.chOpen) (rxPin : v.rxPin = u.rxPin) (txPin : v.txPin = u.txPin) :
    Followed s s1 (past ++ [m]) taken' v where
  books := books
  acks := by rw [countRun_concat _ _ _ _ _ hrun, acks, h.acks, Nat.add_assoc]
  bytes := by rw [countRun_concat _ _ _ _ _ hrun, bytes, h.bytes]
  stored := stored
  chOpen := chOpen.trans h.chOpen
  rxPin := rxPin.trans h.rxPin
  txPin := txPin.trans h.txPin

/-- A turn of the ENGINE adds nothing to what has arrived. -/
theorem arrivals_concat_engine (past : List Move) (a : Answers) :
    arrivals (past ++ [.engine a]) = arrivals past := by
  simp [arrivals_append, arrivals]

/-- Every move that does not end the exchange is followed. -/
theorem Followed.keeps (h : Followed s s1 past taken u) (hrun : runMoves past s1 = .next u)
    (move : ExchangeMove u m v) (goes : v.done = false) : Following s s1 (past ++ [m]) v := by
  cases move with
  | present valid op rx tx =>
    have books : Exchanging s (arrivals (past ++ [.host valid op rx tx])) taken (u.present valid op rx tx) := by
      simpa [arrivals_append, arrivals] using h.books.present valid op rx tx
    exact ⟨taken, h.extend hrun books rfl rfl h.stored rfl rfl rfl⟩
  | arrive b =>
    have books : Exchanging s (arrivals (past ++ [.arrive b])) taken (u.arrived b) := by
      simpa [arrivals_append, arrivals] using h.books.arrive b
    exact ⟨taken, h.extend hrun books rfl rfl h.stored rfl rfl rfl⟩
  | wait a idles =>
    obtain ⟨no_ack, -, no_byte, -, -⟩ := not_counted_of_not_isEngineStep idles
    refine ⟨taken, h.extend hrun ?_ (by simp [no_ack]) (by simp [no_byte]) h.stored rfl rfl rfl⟩
    rw [arrivals_concat_engine]
    exact h.books.sample a
  | refuse | expire | judge => simp [judgeFrame] at goes
  | accept a b htx hnak hack offers =>
    have counted : isTxAck (.engine a) u = true ∧ isRxByte (.engine a) u = false := by
      simp [isTxAck, isRxByte, htx, hnak, hack]
    refine ⟨taken, h.extend hrun ?_ (by simp [counted]) (by simp [counted]) (by simp [h.stored])
      (by simp) (by simp) (by simp)⟩
    rw [arrivals_concat_engine]
    exact (h.books.sample a).acknowledged htx b offers
  | store a b rest f hrx hq hf =>
    have counted : isTxAck (.engine a) u = false ∧ isRxByte (.engine a) u = true := by
      simp [isTxAck, isRxByte, State.rxValid, hrx, hq]
    have next_index : taken.length = u.idx.toNat := h.books.count.trans (State.takenSoFar_rx hrx)
    have stored : f = storeBytes (taken ++ [b]) s.rxbuf := storeBytes_concat next_index (h.stored ▸ hf)
    refine ⟨taken ++ [b], h.extend hrun ?_ (by simp [counted]) (by simp [counted]) (by simp [stored])
      (by simp) (by simp) (by simp)⟩
    rw [arrivals_concat_engine]
    exact (h.books.sample a).stored hrx b rest f hq
  | count a hrx hq htick more =>
    have counted : isTxAck (.engine a) u = false ∧ isRxByte (.engine a) u = false := by
      simp [isTxAck, isRxByte, State.rxValid, hrx, hq]
    refine ⟨taken, h.extend hrun ?_ (by simp [counted]) (by simp [counted]) h.stored rfl rfl rfl⟩
    rw [arrivals_concat_engine]
    have books := h.books.sample a
    exact ⟨books.busy, books.pending, books.idx_le, books.built, books.sent, books.supply, books.count⟩

/-- An exchange in progress agrees with the operation level, where `write` has answered the bytes sent so far and `read`
the bytes taken so far. -/
theorem Followed.agree (h : Followed s s1 past taken u) :
    AgreeOnKept u
      ((s.afterWrite (countRun isTxAck past s1) (arrivals past)).afterRead (countRun isRxByte past s1)) := by
  have sent : u.sentSoFar = commandFrameBytes.toList.take u.sentSoFar.length := by
    cases hp : u.phase with
    | idle => exact absurd hp h.books.busy
    | tx => simp [State.sentSoFar_tx hp]
    | rx => simp [State.sentSoFar_rx hp]
    | check => simp [State.sentSoFar_check hp]
  have supply := h.books.supply
  constructor
  · exact h.chOpen
  · exact h.rxPin
  · exact h.txPin
  · exact h.books.built.trans commandFrame_eq.symm
  · simp [State.afterRead, State.afterWrite, supply, ← h.bytes, h.stored]
  · simp [State.afterRead, State.afterWrite, supply, ← h.bytes]
  · simp only [State.afterRead, State.afterWrite]
    rw [h.books.sent, commandFrame_eq, ← h.length_sentSoFar, ← sent]

/-- The move that ends an exchange leaves the view of the operation level's answer. -/
theorem Followed.ends (h : Followed s s1 past taken u) (hopen : s.chOpen = true) (move : ExchangeMove u m t)
    (ended : t.done = true) :
    isTxAck m u = false ∧ isRxByte m u = false ∧ arrivals (past ++ [m]) = arrivals past ∧
    t.view = (opReadCo2 (countRun isTxAck past s1) (countRun isRxByte past s1) (arrivals past) s).view := by
  have pending := h.books.pending
  have idx_le := h.books.idx_le
  cases move with
  | present | arrive | wait | accept | store | count => simp [pending] at ended
  | refuse a htx hnak =>
    refine ⟨by simp [isTxAck, htx, hnak], by simp [isRxByte, htx], arrivals_concat_engine past a, ?_⟩
    obtain ⟨w, k⟩ := h.counts_tx htx
    rw [opReadCo2_write _ _ _ _ hopen (by omega)]
    have agree := h.agree
    rw [k, State.afterRead_zero] at agree
    exact agree.complete .write 0
  | expire a hrx hq htick last =>
    refine ⟨by simp [isTxAck, hrx], by simp [isRxByte, State.rxValid, hq], arrivals_concat_engine past a, ?_⟩
    obtain ⟨w, k⟩ := h.counts_rx hrx
    rw [opReadCo2_read _ _ _ _ hopen (by omega) (by omega)]
    exact h.agree.complete .read 0
  | judge a hcheck =>
    refine ⟨by simp [isTxAck, hcheck], by simp [isRxByte, hcheck], arrivals_concat_engine past a, ?_⟩
    obtain ⟨w, k⟩ := h.counts_check hcheck
    rw [opReadCo2_judged _ _ _ _ hopen (by omega) (by omega)]
    exact (h.agree.sample a).judgeFrame

end

/-- The first state of an exchange. -/
theorem accepted_eq_beginExchange {s s1 : State} {a : Answers} (ready : s.readyToRead)
    (hs1 : performMove (.engine a) s = .next s1) : s1 = { s.sample a with opValid := false }.beginExchange := by
  obtain ⟨hidle, hopen, hvalid, hop⟩ := ready
  have accepts := performMove_accept_readCo2 s a hidle hvalid hop
  cases hs1.symm.trans (accepts.trans (congrArg _ (acceptRead_open _ hopen)))
  rfl

/-- Every exchange that ends at `t` was followed, with whatever else its moves keep (`Kept`), up to the move `m` that
ends it. -/
theorem followed_to_last {s s1 t : State} {a : Answers} {ms : List Move} (Kept : List Move → State → Prop)
    (keeps : ∀ (past : List Move) (m : Move) (u v : State), runMoves past s1 = .next u → u.phase ≠ .idle →
      Kept past u → ExchangeMove u m v → v.done = false → Kept (past ++ [m]) v)
    (starts : Kept [] s1) (ready : s.readyToRead) (hs1 : performMove (.engine a) s = .next s1)
    (hms : (ms.all fun m => !m.isReset) = true) (ht : runToDone ms s1 = some t) :
    ∃ (past : List Move) (m : Move) (u : State), ms = past ++ [m] ∧ runMoves past s1 = .next u ∧
      (Following s s1 past u ∧ Kept past u) ∧ ExchangeMove u m t ∧ t.done = true := by
  cases accepted_eq_beginExchange ready hs1
  have accepted := Followed.beginExchange s a
  obtain ⟨past, m, u, rfl, hrun, ⟨⟨taken, f⟩, kept⟩, hm, hu, ended⟩ :=
    runToDone_last (fun past u => Following s _ past u ∧ Kept past u)
      (fun past m u v hrun ⟨⟨taken, f⟩, kept⟩ hm hv goes =>
        have move := exchangeMove_of_performMove f.books.busy hm hv
        ⟨f.keeps hrun move goes, keeps past m u v hrun f.books.busy kept move goes⟩)
      rfl ⟨⟨[], accepted⟩, starts⟩ accepted.books.pending hms ht
  exact ⟨past, m, u, rfl, hrun, ⟨⟨taken, f⟩, kept⟩, exchangeMove_of_performMove f.books.busy hm hu, ended⟩

/-- 42_sequencer.md R154: an exchange simulates the operation level's READCO2. -/
theorem exchange_simulates_opReadCo2 {s s1 t : State} {a : Answers} {ms : List Move} (ready : s.readyToRead)
    (hs1 : performMove (.engine a) s = .next s1) (hms : (ms.all fun m => !m.isReset) = true)
    (ht : runToDone ms s1 = some t) :
    countRun isTxAck ms s1 ≤ 9 ∧ countRun isRxByte ms s1 ≤ 9 ∧
    (countRun isTxAck ms s1 < 9 → countRun isRxByte ms s1 = 0) ∧
    t.view = (opReadCo2 (countRun isTxAck ms s1) (countRun isRxByte ms s1) (arrivals ms) s).view := by
  obtain ⟨past, m, u, rfl, hrun, ⟨⟨taken, f⟩, -⟩, move, ended⟩ :=
    followed_to_last (fun _ _ => True) (fun _ _ _ _ _ _ _ _ _ => trivial) trivial ready hs1 hms ht
  obtain ⟨-, hopen, -, -⟩ := ready
  obtain ⟨no_ack, no_byte, no_arrival, answer⟩ := f.ends hopen move ended
  have w : countRun isTxAck (past ++ [m]) s1 = countRun isTxAck past s1 := by
    simp [countRun_concat _ _ _ _ _ hrun, no_ack]
  have k : countRun isRxByte (past ++ [m]) s1 = countRun isRxByte past s1 := by
    simp [countRun_concat _ _ _ _ _ hrun, no_byte]
  obtain ⟨w_le, k_le, none_taken⟩ := f.counts_le
  rw [w, k, no_arrival]
  exact ⟨w_le, k_le, none_taken, answer⟩

/-! ## The operations of one step -/

/-- The turn that takes a presented INIT from the port of an idle ENGINE. -/
theorem performMove_accept_init (s : State) (a : Answers) (hidle : s.phase = .idle) (hvalid : s.opValid = true)
    (hop : s.op = 0) :
    performMove (.engine a) s =
      .next ((State.openChannel s.opRxPin s.opTxPin { s.sample a with opValid := false }).complete .ok 0) := by
  have decodes : decodeOp s.op s.opRxPin s.opTxPin = .init s.opRxPin s.opTxPin := by rw [hop]; rfl
  calc performMove (.engine a) s
      = exec (decodeOp s.op s.opRxPin s.opTxPin) { s.sample a with opValid := false } :=
        engineTurn_accept a s hidle hvalid
    _ = _ := by
        rw [decodes]
        simp [exec, execInit, hidle]

/-- The turn that takes a presented FLUSH from the port of an idle ENGINE. -/
theorem performMove_accept_flush (s : State) (a : Answers) (hidle : s.phase = .idle) (hvalid : s.opValid = true)
    (hop : s.op = 1) :
    performMove (.engine a) s = execFlush { s.sample a with opValid := false } := by
  have decodes : decodeOp s.op s.opRxPin s.opTxPin = .flush := by rw [hop]; rfl
  calc performMove (.engine a) s
      = exec (decodeOp s.op s.opRxPin s.opTxPin) { s.sample a with opValid := false } :=
        engineTurn_accept a s hidle hvalid
    _ = _ := by rw [decodes]; rfl

/-- ACCEPT-FLUSH is the operation level's FLUSH, on an open and on a closed channel. -/
theorem accept_flush_eq_opFlush (s : State) (a : Answers) (hidle : s.phase = .idle) (hvalid : s.opValid = true)
    (hop : s.op = 1) :
    ∃ t : State, performMove (.engine a) s = .next t ∧ t.view = (opFlush s).view := by
  rw [performMove_accept_flush s a hidle hvalid hop]
  rcases execFlush_cases { s.sample a with opValid := false } with
    ⟨-, isOpen, completes⟩ | ⟨-, isClosed, completes⟩ | ⟨busy, -⟩
  · have isOpen : s.chOpen = true := isOpen
    exact ⟨_, completes, by simp [opFlush, isOpen, State.view]⟩
  · have isClosed : s.chOpen = false := isClosed
    exact ⟨_, completes, by simp [opFlush, isClosed, State.view]⟩
  · exact absurd hidle busy

/-- Settles O52: an exchange is followed move by move up to the one that ends it, and each ending is the operation
level's outcome for the bytes sent and taken; the other operations are one step at both levels. -/
theorem stepAndOperationLevelsAgree : Obligations.StepAndOperationLevelsAgree := by
  refine ⟨fun s s1 t a ms => exchange_simulates_opReadCo2, ?_, accept_flush_eq_opFlush, ?_⟩
  · intro s a hidle hvalid hop
    exact ⟨_, performMove_accept_init s a hidle hvalid hop, rfl⟩
  · intro s a w k bytes hidle hvalid hop hclosed
    have accepts := performMove_accept_readCo2 s a hidle hvalid hop
    refine ⟨_, accepts.trans (congrArg _ (acceptRead_closed _ hclosed)), ?_⟩
    rw [opReadCo2_closed w k bytes s hclosed]
    rfl

end Sys2Proof.Machine
end

section
/-! PROOFS, 42_sequencer.md: the steps an exchange takes (R157). -/

namespace Sys2Proof.Machine

open Sys2Proof

/-- The steps counted in an exchange accepted at `s` that has come from `s1` to `u` by the moves `past`: no byte has
been refused and no frame judged, every step is of one of the four kinds, and from the ninth acknowledgement on the counted
ticks and the timer make up the window. -/
structure Timed (s s1 : State) (past : List Move) (u : State) : Prop where
  cfg       : u.cfg = s.cfg
  txSteps   : countRun isTxStep past s1 = countRun isTxAck past s1
  checks    : countRun isCheck past s1 = 0
  kinds     : countRun isEngineStep past s1 =
    countRun isTxStep past s1 + countRun isRxByte past s1 + countRun isRxTick past s1 + countRun isCheck past s1
  unopened  : u.phase = .tx → countRun isRxTick past s1 = 0
  window    : u.phase = .rx ∨ u.phase = .check →
    countRun isRxTick past s1 + u.tmo = s.cfg.readTimeoutTicks ∧ 1 ≤ u.tmo

/-- The exchange just accepted. -/
theorem Timed.beginExchange (s : State) (a : Answers) :
    Timed s { s.sample a with opValid := false }.beginExchange []
      { s.sample a with opValid := false }.beginExchange where
  cfg := by simp
  txSteps := rfl
  checks := rfl
  kinds := rfl
  unopened := fun _ => rfl
  window := by simp

/-- Outside TX no byte is offered, so none is accepted or refused. -/
theorem isTxStep_eq_isTxAck {m : Move} {u : State} (not_tx : u.phase ≠ .tx) : isTxStep m u = isTxAck m u := by
  cases m with
  | engine a => simp [isTxStep, isTxAck, beq_false_of_ne not_tx]
  | _ => rfl

/-- Storing a byte does not go back to TX. -/
theorem State.phase_afterStored_ne_tx {u : State} (hrx : u.phase = .rx) : u.afterStored.phase ≠ .tx := by
  unfold State.afterStored
  split <;> simp [hrx]

section
variable {s s1 u v t : State} {past : List Move} {m : Move}

/-- Along a busy run of one move more, every step is still of one of the four kinds. -/
theorem kinds_concat (hrun : runMoves past s1 = .next u) (busy : u.phase ≠ .idle)
    (kinds : countRun isEngineStep past s1 =
      countRun isTxStep past s1 + countRun isRxByte past s1 + countRun isRxTick past s1 + countRun isCheck past s1) :
    countRun isEngineStep (past ++ [m]) s1 =
      countRun isTxStep (past ++ [m]) s1 + countRun isRxByte (past ++ [m]) s1 + countRun isRxTick (past ++ [m]) s1 +
        countRun isCheck (past ++ [m]) s1 := by
  simp only [countRun_concat _ _ _ _ _ hrun, kinds, isEngineStep_eq_sum busy]
  omega

/-- One move more that is not the last: nothing is refused and nothing judged. -/
theorem Timed.extend (h : Timed s s1 past u) (hrun : runMoves past s1 = .next u) (busy : u.phase ≠ .idle)
    (cfg : v.cfg = u.cfg) (no_refusal : isTxStep m u = isTxAck m u) (no_check : isCheck m u = false)
    (unopened : v.phase = .tx → u.phase = .tx ∧ isRxTick m u = false)
    (window : v.phase = .rx ∨ v.phase = .check →
      (countRun isRxTick past s1 + if isRxTick m u then 1 else 0) + v.tmo = s.cfg.readTimeoutTicks ∧ 1 ≤ v.tmo) :
    Timed s s1 (past ++ [m]) v where
  cfg := cfg.trans h.cfg
  txSteps := by simp only [countRun_concat _ _ _ _ _ hrun, h.txSteps, no_refusal]
  checks := by simp [countRun_concat _ _ _ _ _ hrun, h.checks, no_check]
  kinds := kinds_concat hrun busy h.kinds
  unopened := by
    intro hv
    obtain ⟨htx, no_tick⟩ := unopened hv
    simp [countRun_concat _ _ _ _ _ hrun, h.unopened htx, no_tick]
  window := by
    rw [countRun_concat _ _ _ _ _ hrun]
    exact window

/-- One move more in which the ENGINE takes no step. -/
theorem Timed.extend_quiet (h : Timed s s1 past u) (hrun : runMoves past s1 = .next u) (busy : u.phase ≠ .idle)
    (quiet : isEngineStep m u = false) (cfg : v.cfg = u.cfg) (phase : v.phase = u.phase) (tmo : v.tmo = u.tmo) :
    Timed s s1 (past ++ [m]) v := by
  obtain ⟨no_ack, no_tx, -, no_tick, no_check⟩ := not_counted_of_not_isEngineStep quiet
  refine h.extend hrun busy cfg (no_tx.trans no_ack.symm) no_check (fun hv => ⟨phase ▸ hv, no_tick⟩) ?_
  simpa [phase, tmo, no_tick] using h.window

/-- An accepted byte: after the ninth the window is opened, with no tick counted yet. -/
theorem Timed.accepted (h : Timed s s1 past u) (hrun : runMoves past s1 = .next u)
    (positive : 1 ≤ s.cfg.readTimeoutTicks) {a : Answers} {b : Byte} (htx : u.phase = .tx) (hnak : a.txNak = false)
    (hack : a.txAck = true) : Timed s s1 (past ++ [.engine a]) ((u.sample a).txWrite b).afterSent := by
  have busy : u.phase ≠ .idle := by simp [htx]
  have refusal : isTxStep (.engine a) u = isTxAck (.engine a) u := by simp [isTxStep, isTxAck, hnak, hack]
  have no_tick : isRxTick (.engine a) u = false := by simp [isRxTick, htx]
  have no_check : isCheck (.engine a) u = false := by simp [isCheck, htx]
  refine h.extend hrun busy (by simp) refusal no_check (fun _ => ⟨htx, no_tick⟩) ?_
  rcases afterSent_cases ((u.sample a).txWrite b) with ⟨-, next⟩ | ⟨-, next⟩ <;> rw [next]
  · simp [htx]
  · simp [no_tick, h.unopened htx, h.cfg, positive]

/-- A stored byte leaves the window as it is. -/
theorem Timed.storedByte (h : Timed s s1 past u) (hrun : runMoves past s1 = .next u) {a : Answers} {b : Byte}
    {rest : List Byte} {f : Frame} (hrx : u.phase = .rx) (hq : u.rxq = b :: rest) :
    Timed s s1 (past ++ [.engine a]) { u.sample a with rxbuf := f, rxq := rest }.afterStored := by
  have busy : u.phase ≠ .idle := by simp [hrx]
  have no_send := isTxStep_eq_isTxAck (m := .engine a) (u := u) (by simp [hrx])
  have no_tick : isRxTick (.engine a) u = false := by simp [isRxTick, State.rxValid, hq]
  have no_check : isCheck (.engine a) u = false := by simp [isCheck, hrx]
  refine h.extend hrun busy (by simp) no_send no_check ?_ ?_
  · exact fun htx => absurd htx (State.phase_afterStored_ne_tx hrx)
  · simpa [no_tick] using fun _ => h.window (.inl hrx)

/-- A counted tick moves one of the window from the timer to the count. -/
theorem Timed.counted (h : Timed s s1 past u) (hrun : runMoves past s1 = .next u) {a : Answers} (hrx : u.phase = .rx)
    (hq : u.rxq = []) (htick : a.tick = true) (more : 1 < u.tmo) :
    Timed s s1 (past ++ [.engine a]) { u.sample a with tmo := u.tmo - 1 } := by
  have busy : u.phase ≠ .idle := by simp [hrx]
  have no_send := isTxStep_eq_isTxAck (m := .engine a) (u := u) (by simp [hrx])
  have ticked : isRxTick (.engine a) u = true := by simp [isRxTick, State.rxValid, hrx, hq, htick]
  have no_check : isCheck (.engine a) u = false := by simp [isCheck, hrx]
  refine h.extend hrun busy rfl no_send no_check (by simp [hrx]) fun _ => ?_
  obtain ⟨total, -⟩ := h.window (.inl hrx)
  simp only [ticked, if_true]
  omega

/-- Every move that does not end the exchange is counted. -/
theorem Timed.keeps (h : Timed s s1 past u) (hrun : runMoves past s1 = .next u) (busy : u.phase ≠ .idle)
    (positive : 1 ≤ s.cfg.readTimeoutTicks) (move : ExchangeMove u m v) (goes : v.done = false) :
    Timed s s1 (past ++ [m]) v := by
  cases move with
  | present => exact h.extend_quiet hrun busy rfl rfl rfl rfl
  | arrive => exact h.extend_quiet hrun busy rfl rfl rfl rfl
  | wait a idles => exact h.extend_quiet hrun busy idles rfl rfl rfl
  | refuse | expire | judge => simp [judgeFrame] at goes
  | accept a b htx hnak hack => exact h.accepted hrun positive htx hnak hack
  | store a b rest f hrx hq => exact h.storedByte hrun hrx hq
  | count a hrx hq htick more => exact h.counted hrun hrx hq htick more

/-- The counts of a whole exchange, from those before its last move: a refusal, an expiry or a judged frame. -/
theorem Timed.ends {taken : List Byte} (h : Timed s s1 past u) (f : Followed s s1 past taken u)
    (hrun : runMoves past s1 = .next u) (move : ExchangeMove u m t) (ended : t.done = true) :
    countRun isTxStep (past ++ [m]) s1 ≤ 9 ∧ countRun isRxByte (past ++ [m]) s1 ≤ 9 ∧
    countRun isRxTick (past ++ [m]) s1 ≤ s.cfg.readTimeoutTicks ∧ countRun isCheck (past ++ [m]) s1 ≤ 1 ∧
    (t.status = 0x00 →
      countRun isTxStep (past ++ [m]) s1 = 9 ∧ countRun isRxByte (past ++ [m]) s1 = 9 ∧
      countRun isCheck (past ++ [m]) s1 = 1 ∧ countRun isRxTick (past ++ [m]) s1 < s.cfg.readTimeoutTicks) := by
  have pending := f.books.pending
  have idx_le := f.books.idx_le
  have checks := h.checks
  simp only [countRun_concat _ _ _ _ _ hrun, h.txSteps]
  cases move with
  | present | arrive | wait | accept | store | count => simp [pending] at ended
  | refuse a htx hnak =>
    obtain ⟨w, k⟩ := f.counts_tx htx
    have counted : isTxStep (.engine a) u = true ∧ isRxByte (.engine a) u = false ∧
        isRxTick (.engine a) u = false ∧ isCheck (.engine a) u = false := by
      simp [isTxStep, isRxByte, isRxTick, isCheck, htx, hnak]
    have ticks := h.unopened htx
    simp [counted]
    omega
  | expire a hrx hq htick last =>
    obtain ⟨w, k⟩ := f.counts_rx hrx
    have counted : isTxStep (.engine a) u = false ∧ isRxByte (.engine a) u = false ∧
        isRxTick (.engine a) u = true ∧ isCheck (.engine a) u = false := by
      simp [isTxStep, isRxByte, isRxTick, isCheck, State.rxValid, hrx, hq, htick]
    obtain ⟨total, left⟩ := h.window (.inl hrx)
    simp [counted]
    omega
  | judge a hcheck =>
    obtain ⟨w, k⟩ := f.counts_check hcheck
    have counted : isTxStep (.engine a) u = false ∧ isRxByte (.engine a) u = false ∧
        isRxTick (.engine a) u = false ∧ isCheck (.engine a) u = true := by
      simp [isTxStep, isRxByte, isRxTick, isCheck, hcheck]
    obtain ⟨total, left⟩ := h.window (.inr hcheck)
    simp [counted]
    omega

end

/-- Settles O56: up to its last move an exchange keeps its counts, and that move is a refusal, an expiry or the one
judgement; only a judgement can end with `E_OK`, after nine acknowledgements, nine bytes and an unexpired window. -/
theorem exchangeStepCounts : Obligations.ExchangeStepCounts := by
  intro s s1 t a ms ready positive hs1 hms ht
  have starts : Timed s s1 [] s1 := by
    rw [accepted_eq_beginExchange ready hs1]
    exact Timed.beginExchange s a
  obtain ⟨past, m, u, rfl, hrun, ⟨⟨taken, f⟩, timed⟩, move, ended⟩ :=
    followed_to_last (Timed s s1)
      (fun past m u v hrun busy timed move goes => timed.keeps hrun busy positive move goes) starts ready hs1 hms ht
  obtain ⟨tx_le, bytes_le, ticks_le, checks_le, success⟩ := timed.ends f hrun move ended
  have kinds := kinds_concat (m := m) hrun f.books.busy timed.kinds
  refine ⟨tx_le, bytes_le, ticks_le, checks_le, kinds, fun hok => ?_⟩
  obtain ⟨tx, bytes, checks, ticks_lt⟩ := success hok
  exact ⟨by omega, ticks_lt⟩

end Sys2Proof.Machine
end

section
/-! PROOFS, 42_sequencer.md: the transitions of the table (R140), the arrival of a byte (R150), the acceptance of
READCO2 (R143, R144), CHECK (R149), the inputs no phase names (R151) and the outputs (R152). -/

namespace Sys2Proof.Machine

open Sys2Proof

/-! ## One instruction or move -/

/-- Settles O14: the arrival appends the byte, with the pulses low. -/
theorem arrivalAppendsToQueue : Obligations.ArrivalAppendsToQueue := by
  intro s b
  change Host.Outcome.next (s.arrived b) = _
  rfl

/-- READCO2 in IDLE is its acceptance. -/
theorem exec_readCo2_idle (s : State) (hidle : s.phase = .idle) : exec .readCo2 s = .next (acceptRead s) := by
  simp [exec, execReadCo2, hidle]

/-- Settles O19: on a closed channel the acceptance is the completion with `E_NOINIT`. -/
theorem readOnClosedChannelFails : Obligations.ReadOnClosedChannelFails := by
  intro s hidle hclosed
  rw [exec_readCo2_idle s hidle, acceptRead_closed s hclosed]
  rfl

/-- Settles O20: on an open channel the acceptance begins the exchange, with or without `AUTO_FLUSH`. -/
theorem readOnOpenChannelStarts : Obligations.ReadOnOpenChannelStarts := by
  intro s hidle hopen
  rw [exec_readCo2_idle s hidle, acceptRead_open s hopen, State.beginExchange, commandFrame_eq]
  cases hflush : s.cfg.autoFlush
  · rfl
  · rfl

/-! ## CHECK (R149) -/

/-- What the judgement of a frame writes: VALIDATE's answer. -/
theorem judgeFrame_eq (r : Frame) (s : State) :
    judgeFrame r s =
      { s with
        status := codeByte (validate r s.sentCommand).1
        reading := if (validate r s.sentCommand).1 = .ok then r[2] ++ r[3] else 0
        rdValid := decide ((validate r s.sentCommand).1 = .ok)
        done := true, phase := .idle, idx := 0 } := by
  unfold judgeFrame
  rcases validate_cases r s.sentCommand with ⟨-, answer⟩ | ⟨-, -, answer⟩ | ⟨-, -, answer⟩ <;> rw [answer]
  · rfl
  · rfl
  · rw [decodeReading_eq_append]
    rfl

/-- Settles O26: the turn writes VALIDATE's answer, whose three codes go with the framing and the checksum. -/
theorem checkJudgesReceivedBytes : Obligations.CheckJudgesReceivedBytes := by
  intro s a hcheck
  refine ⟨_, engineTurn_check a s hcheck, judgeFrame_eq s.rxbuf (s.sample a), ?_⟩
  rcases validate_cases s.rxbuf s.txbuf[2] with ⟨hf, answer⟩ | ⟨hf, hc, answer⟩ | ⟨hf, hc, answer⟩ <;> rw [answer]
  · have unframed : s.rxbuf[0] = 0xFF → s.rxbuf[1] ≠ s.txbuf[2] := by
      simpa [hf] using frameOk_iff s.rxbuf s.txbuf[2]
    simp only [reduceCtorEq]
    tauto
  · obtain ⟨start, echo⟩ := (frameOk_iff _ _).mp hf
    have unequal : s.rxbuf[8] ≠ checksum s.rxbuf := by simpa [hc] using chkOk_iff s.rxbuf
    simp [start, echo, unequal]
  · obtain ⟨start, echo⟩ := (frameOk_iff _ _).mp hf
    have equal := (chkOk_iff _).mp hc
    simp [start, echo, equal]

/-! ## The transitions (R140) -/

/-- The accept steps, of an idle ENGINE whose turn runs a presented operation (R141 to R144). -/
theorem accept_next {s t : State} {a : Answers} (hidle : s.phase = .idle) (hvalid : s.opValid = true)
    (h : performMove (.engine a) s = .next t) :
    exec (decodeOp s.op s.opRxPin s.opTxPin) { s.sample a with opValid := false } = .next t :=
  (engineTurn_accept a s hidle hvalid).symm.trans h

/-- The rows of the table that leave IDLE or stay there. -/
theorem transition_idle {s t : State} {a : Answers} (hidle : s.phase = .idle)
    (h : performMove (.engine a) s = .next t) :
    (t.phase, t.idx, t.status) =
      if s.opValid = false then (.idle, s.idx, s.status)
      else if s.op = 0 then (.idle, 0, 0x00)
      else if s.op = 1 then (.idle, 0, if s.chOpen = true then 0x00 else 0xFF)
      else if s.chOpen = true then (.tx, 0, 0x00)
      else (.idle, 0, 0xFF) := by
  cases hvalid : s.opValid
  · cases (engineTurn_wait a s hidle hvalid).symm.trans h
    simp [hidle]
  · rcases exec_decodeOp_next _ _ _ _ t (by exact hidle) (accept_next hidle hvalid h) with
      ⟨hop, rfl⟩ | ⟨hop, hopen, rfl⟩ | ⟨hop, hclosed, rfl⟩ | ⟨hop, hopen, rfl⟩ | ⟨hop, hclosed, rfl⟩ <;>
      simp_all

/-- The rows of the table in TX. -/
theorem transition_tx {s t : State} {a : Answers} (htx : s.phase = .tx)
    (h : performMove (.engine a) s = .next t) :
    (t.phase, t.idx, t.status) =
      if a.txNak = true then (.idle, 0, 0xFE)
      else if a.txAck = false then (.tx, s.idx, s.status)
      else if s.idx.toNat < 8 then (.tx, s.idx + 1, s.status)
      else (.rx, 0, s.status) := by
  rcases sendByte_next _ t ((engineTurn_tx a s htx).symm.trans h) with
    ⟨hnak, rfl⟩ | ⟨hnak, hack, b, -, rfl⟩ | ⟨hnak, hack, rfl⟩
  · have hnak : a.txNak = true := hnak
    simp [hnak]
  · have hnak : a.txNak = false := hnak
    have hack : a.txAck = true := hack
    rcases afterSent_cases ((s.sample a).txWrite b) with ⟨more, next⟩ | ⟨last, next⟩ <;> rw [next]
    · have more : s.idx.toNat < 8 := more
      simp [hnak, hack, more, htx]
    · have last : ¬ s.idx.toNat < 8 := last
      simp [hnak, hack, last]
  · have hnak : a.txNak = false := hnak
    have hack : a.txAck = false := hack
    simp [hnak, hack, htx]

/-- The rows of the table in RX. -/
theorem transition_rx {s t : State} {a : Answers} (hrx : s.phase = .rx)
    (h : performMove (.engine a) s = .next t) :
    (t.phase, t.idx, t.status) =
      if s.rxq ≠ [] then if s.idx.toNat < 8 then (.rx, s.idx + 1, s.status) else (.check, 0, s.status)
      else if a.tick = true ∧ s.tmo ≤ 1 then (.idle, 0, 0xFD)
      else (.rx, s.idx, s.status) := by
  rcases receiveByte_next _ t ((engineTurn_rx a s hrx).symm.trans h) with
    ⟨b, rest, f, hq, -, rfl⟩ | ⟨hq, htick, rfl⟩ | ⟨hq, htick, rfl⟩
  · have hq : s.rxq = b :: rest := hq
    rcases afterStored_cases { s.sample a with rxbuf := f, rxq := rest } with ⟨more, next⟩ | ⟨last, next⟩ <;>
      rw [next]
    · have more : s.idx.toNat < 8 := more
      simp [hq, more, hrx]
    · have last : ¬ s.idx.toNat < 8 := last
      simp [hq, last]
  · have hq : s.rxq = [] := hq
    have htick : a.tick = true := htick
    rcases countTick_cases (s.sample a) with ⟨more, next⟩ | ⟨last, next⟩ <;> rw [next]
    · have more : ¬ s.tmo ≤ 1 := Nat.not_le.mpr more
      simp [hq, more, hrx]
    · have last : s.tmo ≤ 1 := last
      simp [hq, htick, last]
  · have hq : s.rxq = [] := hq
    have htick : a.tick = false := htick
    simp [hq, htick, hrx]

/-- Settles O32: phase by phase for a turn; HOST's port and an arriving byte touch none of the three. -/
theorem transitionsAreTheTable : Obligations.TransitionsAreTheTable := by
  refine ⟨fun s t a h => ?_, fun s t m not_turn not_reset h => ?_⟩
  · split
    case h_1 hidle => exact transition_idle hidle h
    case h_2 htx => exact transition_tx htx h
    case h_3 hrx => exact transition_rx hrx h
    case h_4 hcheck =>
      cases (engineTurn_check a s hcheck).symm.trans h
      rw [judgeFrame_eq]
      rfl
  · cases m with
    | host valid op rx tx => cases h; exact ⟨rfl, rfl, rfl⟩
    | engine a => cases not_turn
    | arrive b => cases h; exact ⟨rfl, rfl, rfl⟩
    | rst q => cases not_reset

/-! ## Inputs no phase names (R151) -/

/-- The inputs R151 speaks of: the transport's answers with the tick, and HOST's command port. -/
structure Inputs where
  txAck   : Bool
  txNak   : Bool
  tick    : Bool
  opValid : Bool
  op      : BitVec 2
  opRxPin : Pin
  opTxPin : Pin

/-- The inputs as they stand in a state. -/
def State.inputs (s : State) : Inputs where
  txAck := s.txAck
  txNak := s.txNak
  tick := s.tick
  opValid := s.opValid
  op := s.op
  opRxPin := s.opRxPin
  opTxPin := s.opTxPin

/-- The state with its inputs changed by `g`, and nothing else. -/
def State.changeInputs (g : Inputs → Inputs) (s : State) : State :=
  { s with
    txAck := (g s.inputs).txAck, txNak := (g s.inputs).txNak, tick := (g s.inputs).tick
    opValid := (g s.inputs).opValid, op := (g s.inputs).op, opRxPin := (g s.inputs).opRxPin
    opTxPin := (g s.inputs).opTxPin }

/-- The outcome with its next state, where it has one, changed by `f`. -/
def mapNext (f : State → State) : Host.Outcome State Fault Refusal → Host.Outcome State Fault Refusal
  | .next s => .next (f s)
  | .fault r => .fault r
  | .refused r => .refused r

section
variable (g : Inputs → Inputs) (s : State)

theorem afterSent_changeInputs : (s.changeInputs g).afterSent = s.afterSent.changeInputs g := by
  unfold State.afterSent
  rw [apply_ite (State.changeInputs g)]
  rfl

theorem afterStored_changeInputs : (s.changeInputs g).afterStored = s.afterStored.changeInputs g := by
  unfold State.afterStored
  rw [apply_ite (State.changeInputs g)]
  rfl

theorem countTick_changeInputs : (s.changeInputs g).countTick = s.countTick.changeInputs g := by
  unfold State.countTick
  rw [apply_ite (State.changeInputs g)]
  rfl

/-- Judging a frame reads no input. -/
theorem judgeFrame_changeInputs (r : Frame) : judgeFrame r (s.changeInputs g) = (judgeFrame r s).changeInputs g := by
  unfold judgeFrame State.completeWith
  rw [apply_ite (State.changeInputs g)]
  rfl

/-- Sending reads no input but the transport's answer. -/
theorem sendByte_changeInputs (hack : (g s.inputs).txAck = s.txAck) (hnak : (g s.inputs).txNak = s.txNak) :
    sendByte (s.changeInputs g) = mapNext (State.changeInputs g) (sendByte s) := by
  have hack' : (s.changeInputs g).txAck = s.txAck := hack
  have hnak' : (s.changeInputs g).txNak = s.txNak := hnak
  have offered : (s.changeInputs g).offered = s.offered := rfl
  unfold sendByte
  rw [hack', hnak', offered]
  cases s.txNak
  · cases s.txAck
    · rfl
    · cases s.offered with
      | none => rfl
      | some b => exact congrArg Host.Outcome.next (afterSent_changeInputs g (s.txWrite b))
  · rfl

/-- Receiving reads no input but the tick, and that one only with no byte waiting. -/
theorem receiveByte_changeInputs (htick : s.rxq = [] → (g s.inputs).tick = s.tick) :
    receiveByte (s.changeInputs g) = mapNext (State.changeInputs g) (receiveByte s) := by
  have queue : (s.changeInputs g).rxq = s.rxq := rfl
  have stored (b : Byte) : frameSet (s.changeInputs g).rxbuf (s.changeInputs g).idx b = frameSet s.rxbuf s.idx b := rfl
  unfold receiveByte
  rw [queue]
  cases hq : s.rxq with
  | nil =>
    have htick' : (s.changeInputs g).tick = s.tick := htick hq
    simp only [htick']
    cases s.tick
    · rfl
    · exact congrArg Host.Outcome.next (countTick_changeInputs g s)
  | cons b rest =>
    simp only [stored]
    cases frameSet s.rxbuf s.idx b with
    | none => rfl
    | some f => exact congrArg Host.Outcome.next (afterStored_changeInputs g { s with rxbuf := f, rxq := rest })

/-- The acceptance of an operation reads the port before the operation runs, and no input then. -/
theorem exec_decodeOp_changeInputs (op : BitVec 2) (rx tx : Pin) (hidle : s.phase = .idle) :
    exec (decodeOp op rx tx) (s.changeInputs g) =
      mapNext (State.changeInputs g) (exec (decodeOp op rx tx) s) := by
  have hidle' : (s.changeInputs g).phase = .idle := hidle
  have channel : (s.changeInputs g).chOpen = s.chOpen := rfl
  rcases decodeOp_cases op rx tx with ⟨-, decodes⟩ | ⟨-, decodes⟩ | ⟨-, decodes⟩ | ⟨-, decodes⟩ <;> rw [decodes]
  · simp only [exec, execInit, hidle, hidle', if_true]
    rfl
  · simp only [exec, execFlush, hidle, hidle', if_true, channel]
    cases s.chOpen <;> rfl
  · rw [exec_readCo2_idle _ hidle, exec_readCo2_idle _ hidle']
    cases hopen : s.chOpen
    · rw [acceptRead_closed s hopen, acceptRead_closed _ (channel.trans hopen)]
      rfl
    · rw [acceptRead_open s hopen, acceptRead_open _ (channel.trans hopen)]
      have flush : (s.changeInputs g).cfg.autoFlush = s.cfg.autoFlush := rfl
      unfold State.beginExchange
      rw [flush]
      cases s.cfg.autoFlush <;> rfl
  · rfl

end

/-- Two turns that differ only in inputs their phase does not name end in states that differ only there. -/
theorem engineTurn_changeInputs (g : Inputs → Inputs) {s s' : State} {a a' : Answers}
    (sampled : s'.sample a' = (s.sample a).changeInputs g)
    (taken : s.phase = .idle →
      s' = s ∧ { s.sample a' with opValid := false } = { s.sample a with opValid := false }.changeInputs g)
    (answers : s.phase = .tx →
      (g (s.sample a).inputs).txAck = a.txAck ∧ (g (s.sample a).inputs).txNak = a.txNak)
    (ticks : s.phase = .rx → s.rxq = [] → (g (s.sample a).inputs).tick = a.tick) :
    engineTurn a' s' = mapNext (State.changeInputs g) (engineTurn a s) := by
  have same_phase : s'.phase = s.phase := (congrArg State.phase sampled :)
  cases hp : s.phase with
  | idle =>
    obtain ⟨rfl, taken⟩ := taken hp
    cases hvalid : s'.opValid
    · rw [engineTurn_wait a s' hp hvalid, engineTurn_wait a' s' hp hvalid, sampled]
      rfl
    · rw [engineTurn_accept a s' hp hvalid, engineTurn_accept a' s' hp hvalid, taken]
      exact exec_decodeOp_changeInputs g _ _ _ _ hp
  | tx =>
    obtain ⟨hack, hnak⟩ := answers hp
    rw [engineTurn_tx a s hp, engineTurn_tx a' s' (same_phase.trans hp), sampled]
    exact sendByte_changeInputs g _ hack hnak
  | rx =>
    rw [engineTurn_rx a s hp, engineTurn_rx a' s' (same_phase.trans hp), sampled]
    exact receiveByte_changeInputs g _ (ticks hp)
  | check =>
    have same_rxbuf : s'.rxbuf = s.rxbuf := (congrArg State.rxbuf sampled :)
    rw [engineTurn_check a s hp, engineTurn_check a' s' (same_phase.trans hp), sampled, same_rxbuf]
    exact congrArg Host.Outcome.next (judgeFrame_changeInputs g _ _)

/-- Settles O33: each sentence of R151 changes inputs that the phase does not name. -/
theorem unnamedInputsChangeNothing : Obligations.UnnamedInputsChangeNothing := by
  intro s t a h
  have ends (g : Inputs → Inputs) : mapNext (State.changeInputs g) (engineTurn a s) = .next (t.changeInputs g) :=
    congrArg (mapNext (State.changeInputs g)) h
  refine ⟨fun unnamed tick => ?_, fun not_tx ack nak => ?_, fun busy valid op rx tx => ?_⟩
  · have no_tick (hrx : s.phase = .rx) (hq : s.rxq = []) : tick = a.tick := by simp [hrx, hq] at unnamed
    have turn := engineTurn_changeInputs (fun i => { i with tick := tick }) (s := s) (s' := s) (a := a)
      (a' := { a with tick := tick }) rfl (fun _ => ⟨rfl, rfl⟩) (fun _ => ⟨rfl, rfl⟩) no_tick
    exact turn.trans (ends _)
  · have turn := engineTurn_changeInputs (fun i => { i with txAck := ack, txNak := nak }) (s := s) (s' := s) (a := a)
      (a' := { a with txAck := ack, txNak := nak }) rfl (fun _ => ⟨rfl, rfl⟩) (fun htx => absurd htx not_tx)
      (fun _ _ => rfl)
    exact turn.trans (ends _)
  · have turn := engineTurn_changeInputs
      (fun i => { i with opValid := valid, op := op, opRxPin := rx, opTxPin := tx }) (s := s) (a := a) (a' := a)
      (s' := { s with opValid := valid, op := op, opRxPin := rx, opTxPin := tx }) rfl
      (fun hidle => absurd hidle busy) (fun _ => ⟨rfl, rfl⟩) (fun _ _ => rfl)
    exact turn.trans (ends _)

/-! ## The outputs (R152) -/

/-- The acceptance of READCO2 pulses `flush_req` exactly with `AUTO_FLUSH`. -/
theorem State.flushReq_beginExchange (s : State) : s.beginExchange.flushReq = (s.cfg.autoFlush || s.flushReq) := by
  unfold State.beginExchange
  cases s.cfg.autoFlush <;> rfl

/-- Outside IDLE no turn raises a pulse. -/
theorem pulses_of_busy {s t : State} {a : Answers} (busy : s.phase ≠ .idle)
    (h : performMove (.engine a) s = .next t) : t.flushReq = false ∧ t.cfgValid = false := by
  cases exchangeMove_of_performMove busy rfl h <;> simp [judgeFrame]

/-- The pulses of the turn of an idle ENGINE: each operation raises its own. -/
theorem pulses_of_idle {s t : State} {a : Answers} (hidle : s.phase = .idle)
    (h : performMove (.engine a) s = .next t) :
    (t.flushReq = true ↔ s.opValid = true ∧ s.chOpen = true ∧ (s.op = 1 ∨ (s.op = 2 ∧ s.cfg.autoFlush = true))) ∧
    (t.cfgValid = true ↔ s.opValid = true ∧ s.op = 0) := by
  cases hvalid : s.opValid
  · cases (engineTurn_wait a s hidle hvalid).symm.trans h
    simp
  · rcases exec_decodeOp_next _ _ _ _ t (by exact hidle) (accept_next hidle hvalid h) with
      ⟨hop, rfl⟩ | ⟨hop, hopen, rfl⟩ | ⟨hop, hclosed, rfl⟩ | ⟨hop, hopen, rfl⟩ | ⟨hop, hclosed, rfl⟩ <;>
      simp_all [State.flushReq_beginExchange]

/-- A move of HOST or ENV, or a reset, ends both pulses. -/
theorem pulses_of_not_turn {s t : State} {m : Move} (not_turn : m.isTurn = false) (h : performMove m s = .next t) :
    t.flushReq = false ∧ t.cfgValid = false := by
  cases m with
  | host valid op rx tx => cases h; exact ⟨rfl, rfl⟩
  | engine a => cases not_turn
  | arrive b => cases h; exact ⟨rfl, rfl⟩
  | rst q => cases h; exact ⟨rfl, rfl⟩

/-- Settles O34: each output by its definition, and the pulses by who moves and in which phase. -/
theorem outputsAreFunctionsOfState : Obligations.OutputsAreFunctionsOfState := by
  refine ⟨fun s => ?_, fun s t m h => ?_⟩
  · have ready : s.opReady = decide (s.phase = .idle) := rfl
    have sends : s.txValid = decide (s.phase = .tx) := rfl
    have takes : s.rxTake = decide (s.phase = .rx ∧ s.rxq ≠ []) :=
      Bool.eq_iff_iff.mpr (s.outputs_rxTake_iff.trans decide_eq_true_iff.symm)
    simp only [State.outputs, ready, sends, takes]
    rfl
  · cases hturn : m.isTurn
    · simp [pulses_of_not_turn hturn h]
    · cases m with
      | engine a =>
        by_cases hidle : s.phase = .idle
        · simpa [hidle] using pulses_of_idle hidle h
        · simp [hidle, pulses_of_busy hidle h]
      | _ => cases hturn

end Sys2Proof.Machine
end

section
/-! PROOFS, 42_sequencer.md: every move that is performed, case by case (R140 to R153). -/

namespace Sys2Proof.Machine

open Sys2Proof

/-! ## A move and its next state -/

/-- What a move does in any phase: HOST and ENV move, the ENGINE waits or takes a step of an exchange (`exchange`), the
ENGINE accepts a presented operation (42_sequencer.md R141 to R144), or reset is asserted. -/
inductive MoveCase (s : State) : Move → State → Prop where
  | exchange {m : Move} {t : State} (move : ExchangeMove s m t) : MoveCase s m t
  | init (a : Answers) (hidle : s.phase = .idle) (hvalid : s.opValid = true) (hop : s.op = 0) :
      MoveCase s (.engine a)
        ((State.openChannel s.opRxPin s.opTxPin { s.sample a with opValid := false }).complete .ok 0)
  | flush (a : Answers) (hidle : s.phase = .idle) (hvalid : s.opValid = true) (hop : s.op = 1)
      (hopen : s.chOpen = true) :
      MoveCase s (.engine a) ({ s.sample a with opValid := false }.rxFlush.complete .ok 0)
  | closed (a : Answers) (hidle : s.phase = .idle) (hvalid : s.opValid = true) (hop : s.op = 1 ∨ s.op = 2)
      (hclosed : s.chOpen = false) :
      MoveCase s (.engine a) ({ s.sample a with opValid := false }.complete .noInit 0)
  | read (a : Answers) (ready : s.readyToRead) :
      MoveCase s (.engine a) { s.sample a with opValid := false }.beginExchange
  | reset (q : List Byte) : MoveCase s (.rst q) (s.engineReset q)

/-- A turn of an idle ENGINE that answers a next state is a wait or an acceptance. -/
theorem moveCase_of_idle {s t : State} {a : Answers} (hidle : s.phase = .idle)
    (h : performMove (.engine a) s = .next t) : MoveCase s (.engine a) t := by
  cases hvalid : s.opValid
  · cases (engineTurn_wait a s hidle hvalid).symm.trans h
    exact .exchange (.wait a (by simp [isEngineStep, hidle, hvalid]))
  · rcases exec_decodeOp_next _ _ _ _ t (by exact hidle) (accept_next hidle hvalid h) with
      ⟨hop, rfl⟩ | ⟨hop, hopen, rfl⟩ | ⟨hop, hclosed, rfl⟩ | ⟨hop, hopen, rfl⟩ | ⟨hop, hclosed, rfl⟩
    · exact .init a hidle hvalid hop
    · exact .flush a hidle hvalid hop hopen
    · exact .closed a hidle hvalid (.inl hop) hclosed
    · exact .read a ⟨hidle, hopen, hvalid, hop⟩
    · exact .closed a hidle hvalid (.inr hop) hclosed

/-- Everything a move can do when it answers a next state. -/
theorem moveCase_of_performMove {s t : State} {m : Move} (h : performMove m s = .next t) : MoveCase s m t := by
  cases m with
  | host valid op rx tx => cases h; exact .exchange (.present valid op rx tx)
  | arrive b => cases h; exact .exchange (.arrive b)
  | rst q => cases h; exact .reset q
  | engine a =>
    by_cases hidle : s.phase = .idle
    · exact moveCase_of_idle hidle h
    · exact .exchange (exchangeMove_of_performMove hidle rfl h)

/-- A turn in which no step is enabled is a wait (42_sequencer.md R153). -/
theorem performMove_wait {s : State} {a : Answers} (idles : isEngineStep (.engine a) s = false) :
    performMove (.engine a) s = .next (s.sample a) := by
  change engineTurn a s = _
  cases hp : s.phase with
  | idle => exact engineTurn_wait a s hp (by simpa [isEngineStep, hp] using idles)
  | tx =>
    have ⟨hack, hnak⟩ : a.txAck = false ∧ a.txNak = false := by simpa [isEngineStep, hp] using idles
    rw [engineTurn_tx a s hp]
    simp [sendByte, hack, hnak]
  | rx =>
    have ⟨hq, htick⟩ : s.rxq = [] ∧ a.tick = false := by simpa [isEngineStep, hp, State.rxValid] using idles
    rw [engineTurn_rx a s hp]
    simp [receiveByte, hq, htick]
  | check => simp [isEngineStep, hp] at idles

/-- The moves of an exchange are performed. -/
theorem performMove_of_exchangeMove {u v : State} {m : Move} (h : ExchangeMove u m v) :
    performMove m u = .next v := by
  cases h with
  | present valid op rx tx => rfl
  | arrive b => rfl
  | wait a idles => exact performMove_wait idles
  | refuse a htx hnak =>
    refine (engineTurn_tx a u htx).trans ?_
    simp [sendByte, hnak]
  | accept a b htx hnak hack offers =>
    refine (engineTurn_tx a u htx).trans ?_
    simp [sendByte, hnak, hack, offers]
  | store a b rest f hrx hq hf =>
    refine (engineTurn_rx a u hrx).trans ?_
    simp [receiveByte, hq, hf]
  | count a hrx hq htick more =>
    refine (engineTurn_rx a u hrx).trans ?_
    simp [receiveByte, hq, htick, State.countTick, more]
  | expire a hrx hq htick last =>
    refine (engineTurn_rx a u hrx).trans ?_
    simp [receiveByte, hq, htick, State.countTick, last]
  | judge a hcheck => exact engineTurn_check a u hcheck

/-- The next state of a move, in full: it is performed exactly as one of the cases says. -/
theorem performMove_eq_next_iff {s t : State} {m : Move} : performMove m s = .next t ↔ MoveCase s m t := by
  refine ⟨moveCase_of_performMove, fun h => ?_⟩
  cases h with
  | exchange move => exact performMove_of_exchangeMove move
  | init a hidle hvalid hop => exact performMove_accept_init s a hidle hvalid hop
  | flush a hidle hvalid hop hopen =>
    rw [performMove_accept_flush s a hidle hvalid hop]
    simp [execFlush, hidle, hopen]
  | closed a hidle hvalid hop hclosed =>
    rcases hop with hop | hop
    · rw [performMove_accept_flush s a hidle hvalid hop]
      simp [execFlush, hidle, hclosed]
    · rw [performMove_accept_readCo2 s a hidle hvalid hop, acceptRead_closed _ (by exact hclosed)]
  | read a ready =>
    obtain ⟨hidle, hopen, hvalid, hop⟩ := ready
    rw [performMove_accept_readCo2 s a hidle hvalid hop, acceptRead_open _ (by exact hopen)]
  | reset q => rfl

/-! ## Moves in IDLE -/

/-- In IDLE the moves of an exchange are HOST's, an arrival and the wait of a turn with nothing presented. -/
theorem ExchangeMove.idle_cases {s t : State} {m : Move} (move : ExchangeMove s m t) (hidle : s.phase = .idle) :
    (∃ valid op rx tx, m = .host valid op rx tx ∧ t = s.present valid op rx tx) ∨
    (∃ b, m = .arrive b ∧ t = s.arrived b) ∨
    (∃ a, m = .engine a ∧ s.opValid = false ∧ t = s.sample a) := by
  cases move with
  | present valid op rx tx => exact .inl ⟨valid, op, rx, tx, rfl, rfl⟩
  | arrive b => exact .inr (.inl ⟨b, rfl, rfl⟩)
  | wait a idles => exact .inr (.inr ⟨a, rfl, by simpa [isEngineStep, hidle] using idles, rfl⟩)
  | refuse a elsewhere | accept a b elsewhere | store a b rest f elsewhere | count a elsewhere | expire a elsewhere
  | judge a elsewhere => simp [hidle] at elsewhere

/-! ## The moves that stop -/

/-- Below index 9 a turn in TX answers a next state. -/
theorem sendByte_answers {s : State} (hidx : s.idx.toNat ≤ 8) : ∃ t, sendByte s = .next t := by
  obtain ⟨faults, refuses⟩ := sendByte_stops s
  cases h : sendByte s with
  | next t => exact ⟨t, rfl⟩
  | fault r => exact absurd (faults r h) (by omega)
  | refused r => exact absurd h (refuses r)

/-- Below index 9 a turn in RX answers a next state. -/
theorem receiveByte_answers {s : State} (hidx : s.idx.toNat ≤ 8) : ∃ t, receiveByte s = .next t := by
  obtain ⟨faults, refuses⟩ := receiveByte_stops s
  cases h : receiveByte s with
  | next t => exact ⟨t, rfl⟩
  | fault r => exact absurd (faults r h) (by omega)
  | refused r => exact absurd h (refuses r)

/-- An operation code other than the reserved one is accepted in IDLE. -/
theorem exec_decodeOp_answers {s : State} (hidle : s.phase = .idle) {op : BitVec 2} (rx tx : Pin) (hop : op ≠ 3) :
    ∃ t, exec (decodeOp op rx tx) s = .next t := by
  rcases decodeOp_cases op rx tx with ⟨-, decodes⟩ | ⟨-, decodes⟩ | ⟨-, decodes⟩ | ⟨reserved, -⟩
  · exact ⟨_, by rw [decodes, exec, execInit, if_pos hidle]⟩
  · exact ⟨_, by rw [decodes, exec, execFlush, if_pos hidle]⟩
  · exact ⟨_, by rw [decodes, exec_readCo2_idle s hidle]⟩
  · exact absurd reserved hop

/-- Below index 9, and with no reserved operation at the port of an idle ENGINE, every move answers a next state. -/
theorem performMove_answers {s : State} (m : Move) (hidx : s.idx.toNat ≤ 8)
    (hport : s.phase = .idle → s.opValid = true → s.op ≠ 3) : ∃ t, performMove m s = .next t := by
  cases m with
  | host valid op rx tx => exact ⟨_, rfl⟩
  | arrive b => exact ⟨_, rfl⟩
  | rst q => exact ⟨_, rfl⟩
  | engine a =>
    change ∃ t, engineTurn a s = .next t
    cases hp : s.phase with
    | idle =>
      cases hvalid : s.opValid
      · exact ⟨_, engineTurn_wait a s hp hvalid⟩
      · rw [engineTurn_accept a s hp hvalid]
        exact exec_decodeOp_answers (by exact hp) _ _ (hport hp hvalid)
    | tx => rw [engineTurn_tx a s hp]; exact sendByte_answers hidx
    | rx => rw [engineTurn_rx a s hp]; exact receiveByte_answers hidx
    | check => exact ⟨_, engineTurn_check a s hp⟩

/-- While an exchange is in progress every move below index 9 answers a next state. -/
theorem performMove_answers_busy {s : State} (m : Move) (busy : s.phase ≠ .idle) (hidx : s.idx.toNat ≤ 8) :
    ∃ t, performMove m s = .next t :=
  performMove_answers m hidx fun hidle => absurd hidle busy

/-! ## Runs -/

/-- What every allowed move keeps, of the moves made and the state they lead to, holds at the end of a run. -/
theorem runMoves_keeps (allowed : Move → Bool) (P : List Move → State → Prop)
    (keeps : ∀ (past : List Move) (m : Move) (u v : State), P past u → allowed m = true →
      performMove m u = .next v → P (past ++ [m]) v)
    {past ms : List Move} {u t : State} (holds : P past u) (hms : (ms.all allowed) = true)
    (hrun : runMoves ms u = .next t) : P (past ++ ms) t := by
  induction ms generalizing past u with
  | nil => cases hrun; simpa using holds
  | cons m ms ih =>
    obtain ⟨v, hv, hrest⟩ := runMoves_cons_next m ms u t hrun
    simp only [List.all_cons, Bool.and_eq_true] at hms
    obtain ⟨hm, hms⟩ := hms
    simpa using ih (keeps past m u v holds hm hv) hms hrest

end Sys2Proof.Machine
end

section
/-! PROOFS, 42_sequencer.md section 8: the invariants (R155), that every step keeps them and that no legal run stops. -/

namespace Sys2Proof.Machine

open Sys2Proof

/-! ## The transmitted bytes as prefixes of the command frame (R155 (6), (7)) -/

/-- One more part of the frame. -/
theorem FramePrefixes.append_take {log : List Byte} (h : FramePrefixes log) (k : Nat) :
    FramePrefixes (log ++ commandFrameBytes.toList.take k) := by
  obtain ⟨ks, rfl⟩ := h
  exact ⟨ks ++ [k], by simp⟩

/-- What the exchange in progress has sent is the command frame up to some byte. -/
theorem State.sentSoFar_eq_take (s : State) : ∃ k : Nat, s.sentSoFar = commandFrameBytes.toList.take k := by
  cases hp : s.phase with
  | idle => exact ⟨0, by simp [State.sentSoFar, hp]⟩
  | tx => exact ⟨_, State.sentSoFar_tx hp⟩
  | rx => exact ⟨9, State.sentSoFar_rx hp⟩
  | check => exact ⟨9, State.sentSoFar_check hp⟩

/-- The whole log is a concatenation of prefixes, the one in progress included. -/
theorem Inv.framePrefixes {s : State} (h : Inv s) : FramePrefixes s.txlog := by
  obtain ⟨earlier, prefixes, log⟩ := h.txlog_frames
  obtain ⟨k, sent⟩ := s.sentSoFar_eq_take
  rw [log, sent]
  exact prefixes.append_take k

/-! ## Moves that are no step of an exchange -/

section
variable {s : State}

/-- ENV's answers at the port are in no invariant. -/
theorem Inv.sample (h : Inv s) (a : Answers) : Inv (s.sample a) := { h with }

/-- Nor is whether an operation waits at the port. -/
theorem Inv.withOpValid (h : Inv s) (valid : Bool) : Inv { s with opValid := valid } := { h with }

/-- Nor is the transport's buffer. -/
theorem Inv.arrived (h : Inv s) (b : Byte) : Inv (s.arrived b) := { h with }

/-- Nor are the moves to come. -/
theorem Inv.advance (h : Inv s) : Inv s.advance := by
  rcases nextMove_cases s with ⟨m, rest, -, -, next⟩ | ⟨-, -, next⟩ <;> rw [next]
  · exact { h with }
  · exact { h with }

/-- The wires of the port carry pins that fit. -/
theorem Inv.present (h : Inv s) (valid : Bool) (op : BitVec 2) (rx tx : Pin) : Inv (s.present valid op rx tx) :=
  { h with port_fits := ⟨pinWires_lt rx s, pinWires_lt tx s⟩ }

/-- Reset asks nothing of the state before it but its configuration and its port, which stay. -/
theorem inv_engineReset (wf : s.cfg.wf) (port : s.opRxPin < 2 ^ s.cfg.pinW ∧ s.opTxPin < 2 ^ s.cfg.pinW)
    (q : List Byte) : Inv (s.engineReset q) where
  cfg_wf := wf
  idx_le := Nat.zero_le 8
  idx_rest := fun _ => rfl
  done_idle := fun _ => rfl
  busy_open := fun busy => absurd rfl busy
  status_code := ⟨.ok, rfl⟩
  valid_ok := nofun
  invalid_zero := fun _ => rfl
  pending_zero := fun _ => ⟨rfl, rfl⟩
  txbuf_written := .inr rfl
  txbuf_busy := fun busy => absurd rfl busy
  tmo_fits := Nat.zero_le _
  pins_fit := ⟨Nat.two_pow_pos _, Nat.two_pow_pos _⟩
  port_fits := port
  tmo_running := nofun
  txlog_frames := ⟨[], ⟨[], rfl⟩, rfl⟩

/-! ## Completion (60_exceptions.md R188) -/

/-- An operation that ends with an error, or with success and no reading: what has been sent of the frame joins what
was sent before. -/
theorem Inv.complete (h : Inv s) (c : Code) : Inv (s.complete c 0) where
  cfg_wf := h.cfg_wf
  idx_le := Nat.zero_le 8
  idx_rest := fun _ => rfl
  done_idle := fun _ => rfl
  busy_open := fun busy => absurd rfl busy
  status_code := ⟨c, rfl⟩
  valid_ok := nofun
  invalid_zero := fun _ => rfl
  pending_zero := nofun
  txbuf_written := h.txbuf_written
  txbuf_busy := fun busy => absurd rfl busy
  tmo_fits := h.tmo_fits
  pins_fit := h.pins_fit
  port_fits := h.port_fits
  tmo_running := nofun
  txlog_frames := ⟨s.txlog, h.framePrefixes, (List.append_nil _).symm⟩

/-- An operation that ends with a reading. -/
theorem Inv.completeReading (h : Inv s) (value : Ppm) : Inv (s.completeReading value) :=
  { h.complete .ok with
    valid_ok := fun _ => ⟨rfl, rfl⟩
    invalid_zero := nofun
    pending_zero := nofun }

/-- The judgement of a frame is one or the other. -/
theorem Inv.judgeFrame (h : Inv s) (r : Frame) : Inv (judgeFrame r s) := by
  rcases completeWith_cases (validate r s.sentCommand) s with ⟨-, next⟩ | ⟨-, next⟩
  · unfold Machine.judgeFrame
    rw [next]
    exact h.completeReading _
  · unfold Machine.judgeFrame
    rw [next]
    exact h.complete _

/-! ## The acceptance of an operation (42_sequencer.md R141 to R144) -/

/-- The channel opens with pins that fit. -/
theorem Inv.openChannel (h : Inv s) {rx tx : Pin} (fits : rx < 2 ^ s.cfg.pinW ∧ tx < 2 ^ s.cfg.pinW) :
    Inv (s.openChannel rx tx) :=
  { h with
    busy_open := fun busy => ⟨(h.busy_open busy).1, rfl⟩
    pins_fit := fits }

/-- The flush of the transport's buffer is in no invariant. -/
theorem Inv.rxFlush (h : Inv s) : Inv s.rxFlush := { h with }

/-- An exchange begins on an open channel, with the command frame built and nothing of it sent. -/
theorem Inv.beginExchange (h : Inv s) (hopen : s.chOpen = true) : Inv s.beginExchange where
  cfg_wf := by simpa using h.cfg_wf
  idx_le := by simp
  idx_rest := by simp
  done_idle := by simp
  busy_open := by simp [hopen]
  status_code := ⟨.ok, by simp⟩
  valid_ok := by simp
  invalid_zero := by simp
  pending_zero := by simp
  txbuf_written := .inl (by simp [commandFrame_eq])
  txbuf_busy := by simp [commandFrame_eq]
  tmo_fits := by simpa using h.tmo_fits
  pins_fit := by simpa using h.pins_fit
  port_fits := by simpa using h.port_fits
  tmo_running := by simp
  txlog_frames := ⟨s.txlog, h.framePrefixes, by simp [State.sentSoFar_tx]⟩

/-! ## The steps of an exchange (42_sequencer.md R145 to R149) -/

/-- An accepted byte is the frame's next; the ninth completes the frame and loads the timer. -/
theorem Inv.acknowledged (h : Inv s) (htx : s.phase = .tx) {b : Byte} (offers : s.offered = some b) :
    Inv (s.txWrite b).afterSent := by
  have busy : s.phase ≠ .idle := by simp [htx]
  obtain ⟨earlier, prefixes, log⟩ := h.txlog_frames
  have frame_byte : commandFrameBytes.toList[s.idx.toNat]? = some b := by
    rw [← offers, State.offered, frameGet, h.txbuf_busy busy, Vector.getElem?_toList]
  have log_succ : s.txlog ++ [b] = earlier ++ commandFrameBytes.toList.take (s.idx.toNat + 1) := by
    rw [log, State.sentSoFar_tx htx, List.take_add_one, frame_byte, List.append_assoc]
    rfl
  rcases afterSent_cases (s.txWrite b) with ⟨more, next⟩ | ⟨last, next⟩ <;> rw [next]
  · have idx_succ := toNat_idx_succ s.idx more
    exact
      { h with
        idx_le := idx_succ.trans_le (Nat.succ_le_of_lt more)
        idx_rest := by simp [htx]
        txlog_frames := by
          refine ⟨earlier, prefixes, ?_⟩
          rw [State.sentSoFar_tx (by exact htx)]
          exact idx_succ ▸ log_succ }
  · rw [toNat_idx_last s.idx h.idx_le last] at log_succ
    exact
      { h with
        idx_le := Nat.zero_le 8
        idx_rest := fun _ => rfl
        done_idle := fun hdone => absurd (h.done_idle hdone) busy
        busy_open := fun _ => h.busy_open busy
        txbuf_busy := fun _ => h.txbuf_busy busy
        tmo_fits := Nat.le_refl _
        tmo_running := fun _ => h.cfg_wf.1
        txlog_frames := ⟨earlier, prefixes, log_succ⟩ }

/-- A stored byte moves the index on; the ninth enters CHECK. -/
theorem Inv.stored (h : Inv s) (hrx : s.phase = .rx) (f : Frame) (rest : List Byte) :
    Inv { s with rxbuf := f, rxq := rest }.afterStored := by
  have busy : s.phase ≠ .idle := by simp [hrx]
  obtain ⟨earlier, prefixes, log⟩ := h.txlog_frames
  rw [State.sentSoFar_rx hrx] at log
  rcases afterStored_cases { s with rxbuf := f, rxq := rest } with ⟨more, next⟩ | ⟨last, next⟩ <;> rw [next]
  · exact
      { h with
        idx_le := (toNat_idx_succ s.idx more).trans_le (Nat.succ_le_of_lt more)
        idx_rest := by simp [hrx]
        txlog_frames := ⟨earlier, prefixes, by rw [State.sentSoFar_rx (by exact hrx)]; exact log⟩ }
  · exact
      { h with
        idx_le := Nat.zero_le 8
        idx_rest := fun _ => rfl
        done_idle := fun hdone => absurd (h.done_idle hdone) busy
        busy_open := fun _ => h.busy_open busy
        txbuf_busy := fun _ => h.txbuf_busy busy
        tmo_running := nofun
        txlog_frames := ⟨earlier, prefixes, log⟩ }

/-- A counted tick that does not expire the window leaves the timer running. -/
theorem Inv.counted (h : Inv s) (more : 1 < s.tmo) : Inv { s with tmo := s.tmo - 1 } :=
  { h with
    tmo_fits := (Nat.sub_le _ _).trans h.tmo_fits
    tmo_running := fun _ => Nat.le_sub_of_add_le more }

/-- A stopped timer fits outside RX, and so does one that is stopped as the operation ends. -/
theorem Inv.expired (h : Inv s) : Inv ({ s with tmo := 0 }.complete .read 0) :=
  { h.complete .read with
    tmo_fits := Nat.zero_le _
    tmo_running := nofun }

/-! ## Every move and every step -/

/-- The moves of an exchange keep the invariants. -/
theorem Inv.exchangeMove (h : Inv s) {m : Move} {t : State} (move : ExchangeMove s m t) : Inv t := by
  cases move with
  | present valid op rx tx => exact h.present valid op rx tx
  | arrive b => exact h.arrived b
  | wait a idles => exact h.sample a
  | refuse a htx hnak => exact (h.sample a).complete .write
  | accept a b htx hnak hack offers => exact (h.sample a).acknowledged htx offers
  | store a b rest f hrx hq hf => exact (h.sample a).stored hrx f rest
  | count a hrx hq htick more => exact (h.sample a).counted more
  | expire a hrx hq htick last => exact (h.sample a).expired
  | judge a hcheck => exact (h.sample a).judgeFrame s.rxbuf

/-- Every move keeps the invariants. -/
theorem Inv.performMove (h : Inv s) {m : Move} {t : State} (hm : performMove m s = .next t) : Inv t := by
  have taken (a : Answers) : Inv { s.sample a with opValid := false } := (h.sample a).withOpValid false
  cases moveCase_of_performMove hm with
  | exchange move => exact h.exchangeMove move
  | init a hidle hvalid hop => exact ((taken a).openChannel h.port_fits).complete .ok
  | flush a hidle hvalid hop hopen => exact (taken a).rxFlush.complete .ok
  | closed a hidle hvalid hop hclosed => exact (taken a).complete .noInit
  | read a ready => exact (taken a).beginExchange ready.2.1
  | reset q => exact inv_engineReset h.cfg_wf h.port_fits q

end

/-- Settles O46: a step is a move, made after the script has moved on, and every move keeps the invariants. -/
theorem stepKeepsInvariants : Obligations.StepKeepsInvariants := by
  intro s t h ht
  exact h.advance.performMove ht

/-! ## The runs from reset -/

/-- The reset state under a configuration within its bounds is what a reset leaves. -/
theorem inv_resetWith {c : Config} (wf : c.wf) (q : List Byte) (moves : List Move) :
    Inv (State.resetWith c q moves) :=
  inv_engineReset (s := State.resetWith c q moves) wf ⟨Nat.two_pow_pos _, Nat.two_pow_pos _⟩ q

/-- The platform's free values are within their bounds. -/
theorem platform_wf : Config.platform.wf := by
  refine ⟨Nat.succ_pos _, ?_⟩
  calc Config.platform.readTimeoutTicks
      < 2 ^ (Nat.log2 Config.platform.readTimeoutTicks + 1) := Nat.lt_log2_self
    _ ≤ 2 ^ Config.platform.tmoW := Nat.pow_le_pow_right (by decide) (Nat.le_add_right _ _)

/-- Settles O45: reset is the reset under the platform's own configuration. -/
theorem resetMeetsInvariants : Obligations.ResetMeetsInvariants :=
  ⟨inv_resetWith platform_wf Config.rxqAtReset [], fun _ q moves wf => inv_resetWith wf q moves⟩

/-- The invariants hold along every run of steps. -/
theorem Inv.run {s t : State} (h : Inv s) {n : Nat} (ht : Host.Core.run core n s = .next t) : Inv t := by
  induction n generalizing s with
  | zero => cases ht; exact h
  | succ n ih =>
    simp only [Host.Core.run] at ht
    split at ht
    case h_1 u hu => exact ih (stepKeepsInvariants s u h hu) ht
    case h_2 => cases ht
    case h_3 => cases ht

/-- The six status bytes (60_exceptions.md R180). -/
theorem codeByte_mem (c : Code) : codeByte c ∈ ([0x00, 0xFF, 0xFE, 0xFD, 0xFC, 0xFB] : List Byte) := by
  cases c <;> decide

/-- Settles O47: the reset state meets the invariants, every step keeps them, and they give the clauses of R155. -/
theorem reachableStatesMeetR155 : Obligations.ReachableStatesMeetR155 := by
  intro c q moves n t wf ht
  have inv : Inv t := (inv_resetWith wf q moves).run ht
  have status_listed : t.status ∈ ([0x00, 0xFF, 0xFE, 0xFD, 0xFC, 0xFB] : List Byte) := by
    obtain ⟨c, hc⟩ := inv.status_code
    exact hc ▸ codeByte_mem c
  have failed_invalid (failed : t.status ≠ 0) : t.rdValid = false := by
    by_contra valid
    exact failed (inv.valid_ok (by simpa using valid)).2
  have sending (htx : t.phase = .tx) : ∃ earlier, t.txlog = earlier ++ t.txbuf.toList.take t.idx.toNat := by
    obtain ⟨earlier, -, log⟩ := inv.txlog_frames
    rw [State.sentSoFar_tx htx, ← inv.txbuf_busy (by simp [htx])] at log
    exact ⟨earlier, log⟩
  exact ⟨⟨inv.idx_le, inv.idx_rest⟩, ⟨inv.done_idle, inv.busy_open⟩, status_listed,
    ⟨inv.valid_ok, fun failed => ⟨inv.invalid_zero (failed_invalid failed), failed_invalid failed⟩⟩,
    inv.txbuf_written.symm, sending, inv.framePrefixes⟩

/-! ## No fault, and no stop (20_memory.md R56, 60_exceptions.md R190) -/

/-- A move can fault only at an index no frame has. -/
theorem performMove_fault {s : State} {m : Move} {r : Fault} (h : performMove m s = .fault r) : 9 ≤ s.idx.toNat := by
  by_contra below
  by_cases port : s.phase = .idle → s.opValid = true → s.op ≠ 3
  · obtain ⟨t, ht⟩ := performMove_answers m (by omega) port
    cases h.symm.trans ht
  · simp only [Classical.not_imp, ne_eq, not_not] at port
    obtain ⟨hidle, hvalid, hop⟩ := port
    cases m with
    | engine a => cases h.symm.trans (reservedOperationIsRefused.2 s a hidle hvalid hop)
    | _ => cases h

/-- Settles O48: the invariants keep `idx` at most 8. -/
theorem noFaultUnderInvariants : Obligations.NoFaultUnderInvariants := by
  intro s r inv h
  have outside : 9 ≤ s.advance.idx.toNat := performMove_fault h
  have inside := inv.advance.idx_le
  omega

/-- No reserved operation waits at the port. -/
def State.portLegal (s : State) : Prop := s.opValid = true → s.op ≠ 3

/-- Only HOST puts an operation at the port, and a legal move puts no reserved one there. -/
theorem portLegal_of_performMove {s t : State} {m : Move} (port : s.portLegal) (legal : m.legal = true)
    (h : performMove m s = .next t) : t.portLegal := by
  unfold State.portLegal at *
  cases moveCase_of_performMove h with
  | exchange move =>
    cases move with
    | present valid op rx tx => simpa [Move.legal, imp_iff_not_or] using legal
    | _ => simpa [judgeFrame] using port
  | reset q => exact port
  | _ => simp

/-- Settles O49: the invariants and a legal port make every move answer, and every legal move keeps both. -/
theorem legalRunsNeverStop : Obligations.LegalRunsNeverStop := by
  intro s ms inv port legal
  change s.portLegal at port
  induction ms generalizing s with
  | nil => exact ⟨s, rfl⟩
  | cons m ms ih =>
    simp only [List.all_cons, Bool.and_eq_true] at legal
    obtain ⟨hm, hms⟩ := legal
    obtain ⟨u, hu⟩ := performMove_answers m inv.idx_le fun _ => port
    obtain ⟨t, ht⟩ := ih u (inv.performMove hu) hms (portLegal_of_performMove port hm hu)
    exact ⟨t, (runMoves_cons m ms s u hu).trans ht⟩

end Sys2Proof.Machine
end

section
/-! PROOFS, 30_encoding.md: the encoder and the decoder undo each other (R71 to R80), and a frame as one number (R7 of
00_scope.md). -/

namespace Sys2Proof.Machine

open Sys2Proof

/-! ## Encodings as bytes -/

/-- Nine bytes in wire order are read as the frame they are. -/
theorem decodeBytes_toList (f : Frame) : decodeBytes f.toList = decodeFrame f := by
  obtain ⟨⟨l⟩, h⟩ := f
  match l, h with
  | [_, _, _, _, _, _, _, _, _], _ => rfl

/-- The code of an operation word is the low two bits of its byte. -/
theorem setWidth_opByte (op : BitVec 2) : (op.setWidth 8).setWidth 2 = op := by
  simp

/-- A pin of eight bits is its byte. -/
theorem toNat_pinByte {pin : Pin} (h : pin < 2 ^ 8) : (BitVec.ofNat 8 pin).toNat = pin :=
  Nat.mod_eq_of_lt h

/-- The bytes of an encoding are read as the encoding, when its pins fit the byte each of them has. -/
theorem decodeBytes_bytes (e : Encoded) (fits : ∀ op rx tx, e = .hop op rx tx → rx < 2 ^ 8 ∧ tx < 2 ^ 8) :
    decodeBytes e.bytes = decode e := by
  cases e with
  | hop op rx tx =>
    obtain ⟨hrx, htx⟩ := fits op rx tx rfl
    simp only [Encoded.bytes, decodeBytes, setWidth_opByte, toNat_pinByte hrx, toNat_pinByte htx]
  | frame f => exact decodeBytes_toList f

/-! ## Decoding an encoding -/

/-- A response frame is no command frame: its byte 1 is the command code, and there the address. -/
theorem response_ne_commandFrame (high low x4 x5 x6 x7 chk : Byte) :
    (#v[0xFF, 0x86, high, low, x4, x5, x6, x7, chk] : Frame) ≠ commandFrame := by
  intro h
  have byte_one : (0x86 : Byte) = commandFrame[1] := congrArg (fun f : Frame => f[1]) h
  exact absurd byte_one (by decide)

/-- Every instruction is read back from its encoding. -/
theorem decode_encode (i : Instr) : decode (encode i) = .ok i := by
  cases i with
  | init rx tx => rfl
  | flush => rfl
  | readCo2 => rfl
  | reservedOp3 => rfl
  | cfReadCo2 => rfl
  | rfReadCo2 high low x4 x5 x6 x7 chk =>
    change decodeFrame #v[0xFF, 0x86, high, low, x4, x5, x6, x7, chk] = _
    rw [decodeFrame, if_neg (response_ne_commandFrame high low x4 x5 x6 x7 chk)]
    rfl

/-- The pins an encoding carries are those of INIT, and 0 otherwise. -/
theorem pins_of_encode {i : Instr} (fits : i.pinsFit = true) {op : BitVec 2} {rx tx : Pin}
    (h : encode i = .hop op rx tx) : rx < 2 ^ 8 ∧ tx < 2 ^ 8 := by
  cases i with
  | init rx' tx' =>
    cases h
    simpa [Instr.pinsFit, Config.defaultPinW] using fits
  | flush | readCo2 | reservedOp3 => cases h; decide
  | cfReadCo2 | rfReadCo2 => cases h

/-- Settles O9: by the instruction for the signals; the bytes carry the same encoding. -/
theorem decodeInvertsEncode : Obligations.DecodeInvertsEncode := by
  intro i
  refine ⟨decode_encode i, fun fits => ?_⟩
  calc decodeBytes (encode i).bytes
      = decode (encode i) := decodeBytes_bytes _ fun _ _ _ => pins_of_encode fits
    _ = .ok i := decode_encode i

/-! ## Encoding what was decoded -/

/-- Settles O10: the decoder's answers, each encoded again. -/
theorem decodedWordReencodes : Obligations.DecodedWordReencodes := by
  refine ⟨fun f i h => ?_, fun op rx tx i h => ?_⟩
  · rcases decodeFrame_ok f i h with ⟨rfl, rfl⟩ | ⟨-, start, echo, rfl⟩
    · exact congrArg Encoded.frame commandFrame_eq
    · exact congrArg Encoded.frame (frame_of_fields f start echo)
  · have decoded : decodeOp op rx tx = i := Except.ok.inj h
    rcases decodeOp_cases op rx tx with ⟨rfl, decodes⟩ | ⟨rfl, decodes⟩ | ⟨rfl, decodes⟩ | ⟨rfl, decodes⟩ <;>
      rw [← decoded, decodes]
    · exact ⟨rx, tx, rfl, fun _ => ⟨rfl, rfl⟩⟩
    · exact ⟨0, 0, rfl, fun h => absurd h (by decide)⟩
    · exact ⟨0, 0, rfl, fun h => absurd h (by decide)⟩
    · exact ⟨0, 0, rfl, fun h => absurd h (by decide)⟩

/-! ## A frame as one number -/

/-- The 72-bit number of a frame, byte 0 most significant (00_scope.md R7). -/
def frameNumber (f : Frame) : Nat :=
  f[0].toNat * 2 ^ 64 + f[1].toNat * 2 ^ 56 + f[2].toNat * 2 ^ 48 + f[3].toNat * 2 ^ 40 +
    f[4].toNat * 2 ^ 32 + f[5].toNat * 2 ^ 24 + f[6].toNat * 2 ^ 16 + f[7].toNat * 2 ^ 8 + f[8].toNat

/-- A frame is read back from its number. -/
theorem frameOfNumber_frameNumber (f : Frame) : frameOfNumber (frameNumber f) = f := by
  apply Vector.ext
  intro i hi
  rw [frameOfNumber, Vector.getElem_ofFn]
  apply BitVec.eq_of_toNat_eq
  rw [BitVec.toNat_ofNat, frameNumber]
  have byte (j : Nat) (hj : j < frameLen) : f[j].toNat < 256 := f[j].isLt
  have b1 := byte 1 (by decide); have b2 := byte 2 (by decide); have b3 := byte 3 (by decide)
  have b4 := byte 4 (by decide); have b5 := byte 5 (by decide); have b6 := byte 6 (by decide)
  have b7 := byte 7 (by decide); have b8 := byte 8 (by decide); have b0 := byte 0 (by decide)
  match i, hi with
  | 0, _ | 1, _ | 2, _ | 3, _ | 4, _ | 5, _ | 6, _ | 7, _ | 8, _ => simp only; omega

/-- Settles O11: the table's bytes of the number are the frame's. -/
theorem frameNumberDecodesAsFrame : Obligations.FrameNumberDecodesAsFrame := by
  intro f
  change (decodeBytes (frameOfNumber (frameNumber f)).toList).toOption = _
  rw [frameOfNumber_frameNumber, decodeBytes_toList]

/-! ## Words written out -/

/-- Settles O7: BUILD's frame is the constant, and so is the frame of the table's number. -/
theorem commandFrameIsTheConstant : Obligations.CommandFrameIsTheConstant := by
  refine ⟨commandFrame_eq, congrArg Encoded.frame commandFrame_eq, ?_⟩
  exact frameOfNumber_frameNumber commandFrameBytes

/-- Settles O8: the operation words by their code, and the two numbers as the frames they are the numbers of. -/
theorem writtenWordsDecode : Obligations.WrittenWordsDecode := by
  have command : decodeTableWord 72 0xFF0186000000000079 = some .cfReadCo2 :=
    frameNumberDecodesAsFrame commandFrameBytes
  have response : decodeTableWord 72 0xFF86029047000000A1 =
      some (.rfReadCo2 0x02 0x90 0x47 0x00 0x00 0x00 0xA1) :=
    frameNumberDecodesAsFrame #v[0xFF, 0x86, 0x02, 0x90, 0x47, 0x00, 0x00, 0x00, 0xA1]
  exact ⟨rfl, rfl, rfl, rfl, command, response⟩

end Sys2Proof.Machine
end

section
/-! PROOFS, 42_sequencer.md sections 3 to 6: what each instruction does in its phase and outside it, and the step that
runs it (R145 to R149, R151, R153), with completion (60_exceptions.md R188) and reset (10_state.md R42). -/

namespace Sys2Proof.Machine

open Sys2Proof

/-! ## The instruction of each phase -/

section
variable {s : State}

/-- In TX the command frame is the transmit step. -/
theorem exec_cfReadCo2_tx (htx : s.phase = .tx) : exec .cfReadCo2 s = sendByte s := if_pos htx

/-- In TX so is the READCO2 in progress. -/
theorem exec_readCo2_tx (htx : s.phase = .tx) : exec .readCo2 s = sendByte s := by
  simp [exec, execReadCo2, htx]

/-- In RX the READCO2 in progress is the receive step. -/
theorem exec_readCo2_rx (hrx : s.phase = .rx) : exec .readCo2 s = receiveByte s := by
  simp [exec, execReadCo2, hrx]

/-- In CHECK the READCO2 in progress judges `rxbuf`. -/
theorem exec_readCo2_check (hcheck : s.phase = .check) : exec .readCo2 s = .next (judgeFrame s.rxbuf s) := by
  simp [exec, execReadCo2, hcheck]

/-- In CHECK a response frame is judged. -/
theorem exec_rfReadCo2_check (hcheck : s.phase = .check) (high low x4 x5 x6 x7 chk : Byte) :
    exec (.rfReadCo2 high low x4 x5 x6 x7 chk) s =
      .next (judgeFrame #v[0xFF, 0x86, high, low, x4, x5, x6, x7, chk] s) := if_pos hcheck

/-- In CHECK the nine bytes of `rxbuf` that decode as a response frame are judged as that frame. -/
theorem exec_decoded_check (hcheck : s.phase = .check) {i : Instr} (decodes : decodeFrame s.rxbuf = .ok i)
    (response : i ≠ .cfReadCo2) : exec i s = .next (judgeFrame s.rxbuf s) := by
  rcases decodeFrame_ok _ i decodes with ⟨-, hi⟩ | ⟨-, start, echo, rfl⟩
  · exact absurd hi response
  · rw [exec_rfReadCo2_check hcheck]
    exact congrArg (fun r => Host.Outcome.next (judgeFrame r s)) (frame_of_fields s.rxbuf start echo)

end

/-! ## The step -/

/-- Settles O12: the script's head, or a free draw, is what `step` takes. -/
theorem stepPerformsNextMove : Obligations.StepPerformsNextMove := by
  refine ⟨fun s m rest scripted => ?_, fun s finished => ?_⟩
  · simp [step, State.nextMove, State.advance, scripted]
  · simp [step, State.nextMove, State.advance, finished]

/-- Settles O13: the step is the turn, and the turn runs the instruction its phase names. -/
theorem turnRunsDecodedInstruction : Obligations.TurnRunsDecodedInstruction := by
  intro s a rest scripted
  have is_turn : step s = engineTurn a { s with script := rest } := stepPerformsNextMove.1 s (.engine a) rest scripted
  rw [is_turn]
  refine ⟨fun hidle hvalid i decodes => ?_, fun hidle hvalid => ?_, fun htx _ => ?_, fun hrx => ?_,
    fun hcheck high low x4 x5 x6 x7 chk decodes => ?_⟩
  · cases decodes
    exact engineTurn_accept a _ hidle hvalid
  · exact engineTurn_wait a _ hidle hvalid
  · exact (engineTurn_tx a { s with script := rest } htx).trans (exec_cfReadCo2_tx (by exact htx)).symm
  · exact (engineTurn_rx a { s with script := rest } hrx).trans (exec_readCo2_rx (by exact hrx)).symm
  · exact (engineTurn_check a { s with script := rest } hcheck).trans
      (exec_decoded_check (s := s.turn a rest) hcheck decodes nofun).symm

/-- Settles O15: HOST's move writes the four signals of its port and ends the pulses. -/
theorem hostDrivesOnlyItsPort : Obligations.HostDrivesOnlyItsPort := by
  intro s valid op rx tx
  change Host.Outcome.next (s.present valid op rx tx) = _
  rfl

/-- Settles O16: the fields of the state that reset leaves. -/
theorem resetClearsEngine : Obligations.ResetClearsEngine := by
  intro s q
  have zeros : unwrittenFrame = Vector.replicate 9 0 := by decide
  exact ⟨s.engineReset q, rfl, rfl, rfl, rfl, rfl, rfl, rfl, rfl, rfl, rfl, rfl, zeros, zeros, rfl, rfl, rfl, rfl,
    rfl, rfl⟩

/-- Settles O31: both completions write the result, IDLE and the index. -/
theorem completionWritesTheResult : Obligations.CompletionWritesTheResult := by
  intro s c value
  exact ⟨rfl, rfl⟩

/-! ## TX -/

/-- Settles O21: the offered byte is written, and `idx` says whether it was the ninth. -/
theorem ackSendsOfferedByte : Obligations.AckSendsOfferedByte := by
  intro s b htx hack hnak hb
  have offers : s.offered = some b := hb
  have sends : exec .cfReadCo2 s = .next (s.txWrite b).afterSent := by
    simp [exec_cfReadCo2_tx htx, sendByte, hack, hnak, offers]
  rw [sends]
  exact congrArg Host.Outcome.next rfl

/-- Settles O22: the refusal is tested first, before an acknowledgement and before `idx`. -/
theorem nakEndsWithWriteFailure : Obligations.NakEndsWithWriteFailure := by
  intro s htx hnak
  rw [exec_cfReadCo2_tx htx, sendByte, if_pos hnak]
  rfl

/-! ## RX -/

/-- Settles O23: a waiting byte is tested first, before a tick. -/
theorem waitingByteIsStored : Obligations.WaitingByteIsStored := by
  intro s b rest hidx hrx hq
  have stores : exec .readCo2 s =
      .next { s with rxbuf := s.rxbuf.set s.idx.toNat b, rxq := rest }.afterStored := by
    simp [exec_readCo2_rx hrx, receiveByte, hq, frameSet, hidx]
  rw [stores]
  exact congrArg Host.Outcome.next rfl

/-- Settles O24: with no byte waiting the tick is counted; elsewhere it is an input that the phase does not name. -/
theorem tickCountsDownOrExpires : Obligations.TickCountsDownOrExpires := by
  refine ⟨fun s hrx hq htick => ?_, fun s t a unnamed h => ?_⟩
  · have counts : exec .readCo2 s = .next s.countTick := by simp [exec_readCo2_rx hrx, receiveByte, hq, htick]
    rw [counts]
    exact congrArg Host.Outcome.next rfl
  · exact (unnamedInputsChangeNothing s t { a with tick := true } h).1 unnamed false

/-! ## CHECK -/

/-- The checksum of a response frame, written out (40_codec.md R101). -/
theorem chk_eq_checksum_iff (high low x4 x5 x6 x7 chk : Byte) :
    chk = checksum #v[0xFF, 0x86, high, low, x4, x5, x6, x7, chk] ↔
      chk.toNat =
        (0x100 - (0x86 + high.toNat + low.toNat + x4.toNat + x5.toNat + x6.toNat + x7.toNat) % 0x100) % 0x100 := by
  rw [← BitVec.toNat_inj, checksum_toNat, sum7_eq]
  rfl

/-- Settles O25: the echo of the command that was sent, then the checksum, decides VALIDATE's answer. -/
theorem responseFrameIsJudged : Obligations.ResponseFrameIsJudged := by
  intro high low x4 x5 x6 x7 chk s hcheck
  obtain ⟨rejects, corrupt, accepts⟩ :=
    validateTestsFramingFirst #v[0xFF, 0x86, high, low, x4, x5, x6, x7, chk] s.sentCommand
  rw [exec_rfReadCo2_check hcheck, judgeFrame_eq]
  refine congrArg Host.Outcome.next ?_
  by_cases other : s.txbuf[2] ≠ 0x86
  · have unframed : ¬ ((0xFF : Byte) = 0xFF ∧ (0x86 : Byte) = s.sentCommand) := fun h => other h.2.symm
    rw [if_pos other, rejects unframed]
    rfl
  · have framed : (0xFF : Byte) = 0xFF ∧ (0x86 : Byte) = s.sentCommand := ⟨rfl, (not_not.mp other).symm⟩
    rw [if_neg other]
    by_cases sum : chk = checksum #v[0xFF, 0x86, high, low, x4, x5, x6, x7, chk]
    · rw [if_pos ((chk_eq_checksum_iff high low x4 x5 x6 x7 chk).mp sum), accepts framed sum]
      rfl
    · rw [if_neg (sum ∘ (chk_eq_checksum_iff high low x4 x5 x6 x7 chk).mpr), corrupt framed sum]
      rfl

/-- Settles O27: the READCO2 in progress and the frame of its phase are the same step. -/
theorem readContinuesItsExchange : Obligations.ReadContinuesItsExchange := by
  intro s
  refine ⟨fun htx => ?_, fun hcheck i decodes response => ?_, fun hcheck unframed => ?_⟩
  · rw [exec_readCo2_tx htx, exec_cfReadCo2_tx htx]
  · rw [exec_readCo2_check hcheck, exec_decoded_check hcheck decodes response]
  · have rejects : validate s.rxbuf s.sentCommand = (.reject, 0) :=
      (validateTestsFramingFirst s.rxbuf s.sentCommand).1 unframed
    rw [exec_readCo2_check hcheck, judgeFrame_eq, rejects]
    rfl

/-! ## Outside its phase, and outside the frame -/

/-- Settles O29: each instruction tests its phase, and waits with no answer, byte or tick. -/
theorem instructionWaitsOutsideItsPhase : Obligations.InstructionWaitsOutsideItsPhase := by
  refine ⟨fun rx tx s busy => ⟨if_neg busy, if_neg busy⟩, fun s unanswered => ?_,
    fun high low x4 x5 x6 x7 chk s elsewhere => if_neg elsewhere, fun s hrx hq htick => ?_⟩
  · by_cases htx : s.phase = .tx
    · obtain ⟨hack, hnak⟩ := unanswered.resolve_left (not_not.mpr htx)
      simp [exec_cfReadCo2_tx htx, sendByte, hack, hnak]
    · exact if_neg htx
  · simp [exec_readCo2_rx hrx, receiveByte, hq, htick]

/-- Settles O30: past the frame an indexed read and an indexed write have no answer. -/
theorem indexOutsideFrameFaults : Obligations.IndexOutsideFrameFaults := by
  refine ⟨fun s htx hack hnak outside => ?_, fun s hrx waiting outside => ?_⟩
  · have nothing_offered : s.offered = none := (frameGet_eq_none s.txbuf s.idx).mpr outside
    simp [exec_cfReadCo2_tx htx, sendByte, hack, hnak, nothing_offered]
  · obtain ⟨b, rest, hq⟩ := List.exists_cons_of_ne_nil waiting
    have no_place : frameSet s.rxbuf s.idx b = none := (frameSet_eq_none s.rxbuf s.idx b).mpr outside
    simp [exec_readCo2_rx hrx, receiveByte, hq, no_place]

end Sys2Proof.Machine
end

section
/-! PROOFS, 10_state.md: which move can change which element of the state (R22 to R28, R33, R38, R39, R41). -/

namespace Sys2Proof.Machine

open Sys2Proof

/-! ## What a step of an exchange never writes -/

section
variable {s t : State} {m : Move}

/-- No step of an exchange writes the channel, the pins, the command buffer, the configuration or the model's own
fields. -/
theorem ExchangeMove.unwritten (move : ExchangeMove s m t) :
    t.chOpen = s.chOpen ∧ (t.rxPin = s.rxPin ∧ t.txPin = s.txPin) ∧ t.txbuf = s.txbuf ∧
    (t.cfg = s.cfg ∧ t.script = s.script ∧ t.drawn = s.drawn) := by
  cases move <;> simp [judgeFrame]

/-- Nor, when it is a turn, the command port. -/
theorem ExchangeMove.port_unwritten {a : Answers} (move : ExchangeMove s (.engine a) t) :
    t.opValid = s.opValid ∧ t.op = s.op ∧ t.opRxPin = s.opRxPin ∧ t.opTxPin = s.opTxPin := by
  cases move <;> simp [judgeFrame]

/-- Everything an indexed write does, byte by byte. -/
theorem getElem?_of_frameSet {f g : Frame} {i : BitVec 4} {b : Byte} (h : frameSet f i b = some g) (j : Nat) :
    g[j]? = if j = i.toNat then some b else f[j]? := by
  unfold frameSet at h
  split at h
  case isTrue hi =>
    cases h
    rw [Vector.getElem?_set]
    simp only [eq_comm (a := i.toNat)]
  case isFalse => cases h

end

/-! ## The configuration, the channel, the pins and the command buffer -/

/-- Settles O36: neither an exchange nor an acceptance nor reset writes them. -/
theorem configurationIsNeverWritten : Obligations.ConfigurationIsNeverWritten := by
  intro s t m h
  cases moveCase_of_performMove h with
  | exchange move =>
    obtain ⟨-, -, -, kept⟩ := move.unwritten
    exact kept
  | read a ready => simp
  | _ => exact ⟨rfl, rfl, rfl⟩

/-- Settles O38: of the moves but reset only the acceptance of INIT writes the channel. -/
theorem channelOpensByInitClosesByReset : Obligations.ChannelOpensByInitClosesByReset := by
  intro s t m h not_reset changed
  cases moveCase_of_performMove h with
  | exchange move =>
    obtain ⟨kept, -⟩ := move.unwritten
    exact absurd kept changed
  | init a hidle hvalid hop =>
    have was_closed : s.chOpen = false := by simpa using changed.symm
    exact ⟨was_closed, rfl, rfl, hidle, hvalid, hop⟩
  | flush | closed | read => simp at changed
  | reset q => cases not_reset

/-- Settles O39: so it is with the pins. -/
theorem pinsWrittenOnlyByInit : Obligations.PinsWrittenOnlyByInit := by
  intro s t m h not_reset changed
  cases moveCase_of_performMove h with
  | exchange move =>
    obtain ⟨-, ⟨rx_kept, tx_kept⟩, -⟩ := move.unwritten
    simp [rx_kept, tx_kept] at changed
  | init a hidle hvalid hop => exact ⟨rfl, hidle, hvalid, hop, rfl, rfl⟩
  | flush | closed | read => simp at changed
  | reset q => cases not_reset

/-- Settles O40: of the moves but reset only the acceptance of READCO2 on an open channel writes the command buffer. -/
theorem commandBufferWrittenOnlyAtAcceptance : Obligations.CommandBufferWrittenOnlyAtAcceptance := by
  intro s t m h not_reset changed
  cases moveCase_of_performMove h with
  | exchange move =>
    obtain ⟨-, -, kept, -⟩ := move.unwritten
    exact absurd kept changed
  | read a ready => exact ⟨rfl, ready, (State.txbuf_beginExchange _ _).trans commandFrame_eq⟩
  | init | flush | closed => simp at changed
  | reset q => cases not_reset

/-! ## The command port (R33) -/

/-- Settles O35: an acceptance takes the operation from the port, in IDLE, and no other turn writes the port. -/
theorem presentedOperationWaitsUntilAccepted : Obligations.PresentedOperationWaitsUntilAccepted := by
  intro s t a h
  have ready_iff : s.outputs.opReady = true ↔ s.phase = .idle := beq_iff_eq
  have not_ready_iff : s.outputs.opReady = false ↔ s.phase ≠ .idle := by rw [Bool.eq_false_iff, ne_eq, ready_iff]
  refine ⟨ready_iff, ?_⟩
  rw [ready_iff, not_ready_iff]
  cases moveCase_of_performMove h with
  | exchange move =>
    obtain ⟨valid_kept, op_kept⟩ := move.port_unwritten
    refine ⟨op_kept, fun hidle => ?_, fun _ => valid_kept⟩
    rcases move.idle_cases hidle with ⟨_, _, _, _, no_turn, -⟩ | ⟨_, no_turn, -⟩ | ⟨_, -, unpresented, rfl⟩
    · cases no_turn
    · cases no_turn
    · exact unpresented
  | init a hidle | flush a hidle | closed a hidle =>
    exact ⟨⟨rfl, rfl, rfl⟩, fun _ => rfl, fun busy => absurd hidle busy⟩
  | read a ready =>
    obtain ⟨hidle, -⟩ := ready
    simp [hidle]

/-! ## The receive buffer (R27) -/

/-- Settles O41: of the moves but reset only RX-BYTE writes the receive buffer, by one indexed write. -/
theorem receiveBufferWrittenByteByByte : Obligations.ReceiveBufferWrittenByteByByte := by
  intro s t m h not_reset changed
  cases moveCase_of_performMove h with
  | exchange move =>
    cases move with
    | store a b rest f hrx hq hf =>
      have written := getElem?_of_frameSet hf
      refine ⟨rfl, hrx, by simp [hq], ?_, fun j other => ?_⟩
      · simp [written, hq]
      · simp [written, other]
    | _ => simp [judgeFrame] at changed
  | init | flush | closed | read => simp at changed
  | reset q => cases not_reset

/-! ## The transmit stream (R39) -/

/-- In IDLE no byte is offered and none waited for. -/
theorem not_counted_of_idle {s : State} (hidle : s.phase = .idle) (a : Answers) :
    isTxAck (.engine a) s = false ∧ isRxTick (.engine a) s = false := by
  simp [isTxAck, isRxTick, hidle]

/-- Settles O42: TX-ACK appends the byte on offer, and no other move but reset writes the stream. -/
theorem transmitLogGrowsByOfferedByte : Obligations.TransmitLogGrowsByOfferedByte := by
  intro s t m h not_reset
  cases moveCase_of_performMove h with
  | exchange move =>
    cases move with
    | accept a b htx hnak hack offers =>
      have counted : isTxAck (.engine a) s = true := by simp [isTxAck, htx, hnak, hack]
      have byte : s.txbuf[s.idx.toNat]? = some b := offers
      simp [counted, byte]
    | wait a idles => simp [not_counted_of_not_isEngineStep idles]
    | present | arrive => simp [isTxAck]
    | refuse a htx hnak => simp [isTxAck, hnak]
    | store a b rest f hrx | count a hrx | expire a hrx => simp [isTxAck, hrx]
    | judge a hcheck => simp [isTxAck, hcheck, judgeFrame]
  | init a hidle | flush a hidle | closed a hidle => simp [not_counted_of_idle hidle]
  | read a ready => simp [not_counted_of_idle ready.1]
  | reset q => cases not_reset

/-! ## The receive queue (R38) -/

/-- The queue after the acceptance of READCO2. -/
theorem State.rxq_accepted (s : State) (a : Answers) :
    { s.sample a with opValid := false }.beginExchange.rxq = if s.cfg.autoFlush = true then [] else s.rxq := by
  rw [State.rxq_beginExchange]
  exact List.append_nil _

/-- Settles O43: each move with its rule. -/
theorem receiveQueueChangesOnlyByItsRules : Obligations.ReceiveQueueChangesOnlyByItsRules := by
  intro s t m h
  cases moveCase_of_performMove h with
  | exchange move =>
    cases move with
    | present | arrive => rfl
    | wait a idles =>
      cases hp : s.phase with
      | idle =>
        have unpresented : s.opValid = false := by simpa [isEngineStep, hp] using idles
        simp [unpresented]
      | rx =>
        have ⟨empty, _⟩ : s.rxq = [] ∧ a.tick = false := by simpa [isEngineStep, hp, State.rxValid] using idles
        simp [empty]
      | tx | check => rfl
    | refuse a hphase | accept a b hphase | judge a hphase => simp [hphase, judgeFrame]
    | store a b rest f hrx hq | count a hrx hq | expire a hrx hq => simp [hrx, hq]
  | init a hidle hvalid hop => simp [hidle, hvalid, hop]
  | flush a hidle hvalid hop hopen => simp [hidle, hvalid, hop, hopen]
  | closed a hidle hvalid hop hclosed => rcases hop with hop | hop <;> simp [hidle, hvalid, hop, hclosed]
  | read a ready =>
    obtain ⟨hidle, hopen, hvalid, hop⟩ := ready
    rw [State.rxq_accepted]
    simp [hidle, hopen, hvalid, hop]
  | reset q => rfl

/-! ## The timer (R28) -/

/-- Settles O44: the ninth TX-ACK loads it, RX-TICK counts it, and no other move but reset writes it. -/
theorem timerLoadedAndCountedOnlyByItsRules : Obligations.TimerLoadedAndCountedOnlyByItsRules := by
  intro s t m h not_reset
  cases moveCase_of_performMove h with
  | exchange move =>
    cases move with
    | accept a b htx hnak hack offers =>
      have counted : isTxAck (.engine a) s = true := by simp [isTxAck, htx, hnak, hack]
      rcases afterSent_cases ((s.sample a).txWrite b) with ⟨more, next⟩ | ⟨last, next⟩ <;> rw [next]
      · have more : ¬ 8 ≤ s.idx.toNat := Nat.not_le.mpr more
        simp [isRxTick, htx, more]
      · have last : 8 ≤ s.idx.toNat := Nat.not_lt.mp last
        simp [counted, last]
    | count a hrx hq htick more => simp [isTxAck, isRxTick, State.rxValid, hrx, hq, htick]
    | expire a hrx hq htick last =>
      have nothing_left : s.tmo - 1 = 0 := Nat.sub_eq_zero_of_le last
      simp [isTxAck, isRxTick, State.rxValid, hrx, hq, htick, nothing_left]
    | wait a idles => simp [not_counted_of_not_isEngineStep idles]
    | present | arrive => simp [isTxAck, isRxTick]
    | refuse a htx hnak => simp [isTxAck, isRxTick, htx, hnak]
    | store a b rest f hrx hq => simp [isTxAck, isRxTick, State.rxValid, hrx, hq]
    | judge a hcheck => simp [isTxAck, isRxTick, hcheck, judgeFrame]
  | init a hidle | flush a hidle | closed a hidle => simp [not_counted_of_idle hidle]
  | read a ready => simp [not_counted_of_idle ready.1]
  | reset q => cases not_reset

end Sys2Proof.Machine
end

section
/-! PROOFS, 60_exceptions.md and 20_memory.md: a closed channel (R181, R195), the flush (R64), and the order of the
errors of READCO2 (R189). -/

namespace Sys2Proof.Machine

open Sys2Proof

/-! ## A closed channel -/

/-- A closed idle channel that has come from `s` by the moves `past` with no INIT among them: nothing has been written
or taken, and a result, where there is one, is `E_NOINIT`. -/
structure SilentSince (s : State) (past : List Move) (u : State) : Prop where
  idle   : u.phase = .idle
  closed : u.chOpen = false
  noInit : u.presentsInit = false
  txlog  : u.txlog = s.txlog
  rxq    : u.rxq = s.rxq ++ arrivals past
  txbuf  : u.txbuf = s.txbuf
  rxbuf  : u.rxbuf = s.rxbuf
  status : u.status = s.status ∨ u.status = 0xFF

/-- Every move but INIT's presentation and reset leaves a closed channel silent. -/
theorem SilentSince.keeps {s : State} (past : List Move) (m : Move) (u v : State) (h : SilentSince s past u)
    (hm : (!m.presentsInit && !m.isReset) = true) (hv : performMove m u = .next v) :
    SilentSince s (past ++ [m]) v := by
  obtain ⟨no_init, no_reset⟩ : m.presentsInit = false ∧ m.isReset = false := by simpa using hm
  have turn (a : Answers) : u.rxq = s.rxq ++ arrivals (past ++ [.engine a]) := by
    rw [arrivals_concat_engine]
    exact h.rxq
  cases moveCase_of_performMove hv with
  | exchange move =>
    rcases move.idle_cases h.idle with ⟨valid, op, rx, tx, rfl, rfl⟩ | ⟨b, rfl, rfl⟩ | ⟨a, rfl, -, rfl⟩
    · exact { h with noInit := no_init, rxq := by simp [h.rxq, arrivals_append, arrivals] }
    · exact { h with rxq := by simp [h.rxq, arrivals_append, arrivals] }
    · exact { h with rxq := turn a }
  | init a hidle hvalid hop =>
    have presented := h.noInit
    simp [State.presentsInit, hvalid, hop] at presented
  | closed a => exact { h with idle := rfl, noInit := rfl, rxq := turn a, status := .inr rfl }
  | flush a hidle hvalid hop hopen => simp [h.closed] at hopen
  | read a ready => exact absurd ready.2.1 (by simp [h.closed])
  | reset q => cases no_reset

/-- Settles O50: a closed channel is silent at first, and every move of the run leaves it so. -/
theorem closedChannelStaysSilent : Obligations.ClosedChannelStaysSilent := by
  intro s t ms hidle hclosed hinit hms hrun
  have at_first : SilentSince s [] s := ⟨hidle, hclosed, hinit, rfl, (List.append_nil _).symm, rfl, rfl, .inl rfl⟩
  have silent : SilentSince s ms t := runMoves_keeps _ (SilentSince s) SilentSince.keeps at_first hms hrun
  exact ⟨silent.idle, silent.closed, silent.txlog, silent.rxq, silent.txbuf, silent.rxbuf, silent.status⟩

/-! ## After a flush -/

/-- What an accepted FLUSH on the open channel of `s` leaves, after the moves `past` of HOST and ENV. -/
def FlushedSince (s : State) (past : List Move) (u : State) : Prop :=
  u.rxq = arrivals past ∧ u.status = 0x00 ∧ u.done = true ∧ u.txlog = s.txlog ∧ u.txbuf = s.txbuf ∧
    u.rxbuf = s.rxbuf ∧ u.phase = .idle

/-- HOST's moves leave it all, and an arrival joins the queue. -/
theorem FlushedSince.keeps {s : State} (past : List Move) (m : Move) (u v : State) (h : FlushedSince s past u)
    (hm : (!m.isTurn && !m.isReset) = true) (hv : performMove m u = .next v) : FlushedSince s (past ++ [m]) v := by
  obtain ⟨hq, others⟩ := h
  cases m with
  | host valid op rx tx =>
    cases hv
    exact ⟨by simp [hq, arrivals_append, arrivals], others⟩
  | arrive b =>
    cases hv
    exact ⟨by simp [hq, arrivals_append, arrivals], others⟩
  | engine a => cases hm
  | rst q => cases hm

/-- Settles O60: the flush empties the queue, and only arrivals fill it again. -/
theorem flushLeavesOnlyLaterBytes : Obligations.FlushLeavesOnlyLaterBytes := by
  intro s t u a ms hidle hopen hvalid hop ht hms hrun
  have accepted := performMove_eq_next_iff.mpr (MoveCase.flush a hidle hvalid hop hopen)
  cases ht.symm.trans accepted
  have at_first : FlushedSince s [] ({ s.sample a with opValid := false }.rxFlush.complete .ok 0) :=
    ⟨rfl, rfl, rfl, rfl, rfl, rfl, rfl⟩
  exact runMoves_keeps _ (FlushedSince s) FlushedSince.keeps at_first hms hrun

/-! ## The order of the errors -/

/-- Nine bytes stored fill the buffer. -/
theorem storeBytes_toList (r f : Frame) : storeBytes r.toList f = r := by
  apply Vector.ext
  intro i hi
  simp [storeBytes]

/-- The result of the judgement of a frame is VALIDATE's answer. -/
theorem result_judgeFrame (r : Frame) (s : State) :
    (judgeFrame r s).status = codeByte (validate r s.sentCommand).1 ∧
    (judgeFrame r s).reading = (validate r s.sentCommand).2 ∧
    ((judgeFrame r s).rdValid = true ↔ (validate r s.sentCommand).1 = .ok) := by
  unfold judgeFrame
  rcases validate_cases r s.sentCommand with ⟨-, answer⟩ | ⟨-, -, answer⟩ | ⟨-, -, answer⟩ <;> rw [answer]
  · exact ⟨rfl, rfl, by simp [State.completeWith]⟩
  · exact ⟨rfl, rfl, by simp [State.completeWith]⟩
  · exact ⟨rfl, rfl, by simp [State.completeWith]⟩

/-- Settles O53: the outcomes of READCO2 at the operation level, in their order. -/
theorem errorPrecedence : Obligations.ErrorPrecedence := by
  intro w k bytes s
  refine ⟨fun hclosed => ?_, fun hopen hw => ?_, fun hopen hw hk => ?_, fun hopen hw r hr => ?_⟩
  · rw [opReadCo2_closed w k bytes s hclosed]
    rfl
  · rw [opReadCo2_write w k bytes s hopen hw]
    rfl
  · rw [opReadCo2_read w k bytes s hopen hw hk]
    rfl
  · have received : ((s.afterWrite w bytes).afterRead 9).rxbuf = r := by
      simp only [State.afterRead, State.afterWrite, hr, storeBytes_toList]
    have command : ((s.afterWrite w bytes).afterRead 9).sentCommand = 0x86 := commandFrame_cmd
    obtain ⟨status, reading, -⟩ := result_judgeFrame r ((s.afterWrite w bytes).afterRead 9)
    rw [opReadCo2_judged w 9 bytes s hopen hw (Nat.le_refl 9), received, ← command]
    exact ⟨status, reading⟩

end Sys2Proof.Machine
end

section
/-! PROOFS, 10_state.md section 5 (R40): what the pins, the buffers and the timer hold in IDLE is not observable. -/

namespace Sys2Proof.Machine

open Sys2Proof

/-! ## The elements that are written before they are read -/

/-- Contents of the elements that have no value at reset: the pins, the two frame buffers and the timer. -/
structure Hidden where
  rxPin : Pin
  txPin : Pin
  txbuf : Frame
  rxbuf : Frame
  tmo   : Nat

/-- The state with other contents there. -/
def State.withHidden (h : Hidden) (s : State) : State :=
  { s with rxPin := h.rxPin, txPin := h.txPin, txbuf := h.txbuf, rxbuf := h.rxbuf, tmo := h.tmo }

/-- The contents that can stand beside those of `u` unobserved: the pins agree while `cfg_valid` is 1, the command
buffer during an exchange, the timer in RX, and of the receive buffer the bytes that have been received. -/
structure Unobserved (u : State) (h : Hidden) : Prop where
  pins     : u.cfgValid = true → h.rxPin = u.rxPin ∧ h.txPin = u.txPin
  command  : u.phase ≠ .idle → h.txbuf = u.txbuf
  timer    : u.phase = .rx → h.tmo = u.tmo
  received : u.phase = .rx → ∀ j : Nat, j < u.idx.toNat → h.rxbuf[j]? = u.rxbuf[j]?
  judged   : u.phase = .check → h.rxbuf = u.rxbuf

/-- In IDLE with `cfg_valid` = 0 any contents are unobserved. -/
theorem Unobserved.of_idle {u : State} (h : Hidden) (hidle : u.phase = .idle) (hpins : u.cfgValid = false) :
    Unobserved u h where
  pins := by simp [hpins]
  command := by simp [hidle]
  timer := by simp [hidle]
  received := by simp [hidle]
  judged := by simp [hidle]

section
variable {u v : State} {h : Hidden}

/-- A move that writes none of what the relation speaks of, and leaves `cfg_valid` at 0. -/
theorem Unobserved.of_unchanged (unobserved : Unobserved u h) (hpins : v.cfgValid = false)
    (hphase : v.phase = u.phase) (hidx : v.idx = u.idx) (htxbuf : v.txbuf = u.txbuf) (hrxbuf : v.rxbuf = u.rxbuf)
    (htmo : v.tmo = u.tmo) : Unobserved v h where
  pins := by simp [hpins]
  command := by rw [hphase, htxbuf]; exact unobserved.command
  timer := by rw [hphase, htmo]; exact unobserved.timer
  received := by rw [hphase, hidx, hrxbuf]; exact unobserved.received
  judged := by rw [hphase, hrxbuf]; exact unobserved.judged

/-! ## The steps of an exchange -/

/-- The index after a stored byte reads no hidden element. -/
theorem afterStored_withHidden (h : Hidden) (s : State) :
    (s.withHidden h).afterStored = s.afterStored.withHidden h := by
  unfold State.afterStored
  rw [apply_ite (State.withHidden h)]
  rfl

/-- The judgement of a frame reads the command that was sent. -/
theorem judgeFrame_withHidden (h : Hidden) (r : Frame) (s : State) (command : h.txbuf = s.txbuf) :
    judgeFrame r (s.withHidden h) = (judgeFrame r s).withHidden h := by
  have sent : (s.withHidden h).sentCommand = s.sentCommand := by simp [State.sentCommand, State.withHidden, command]
  unfold judgeFrame State.completeWith
  rw [sent, apply_ite (State.withHidden h)]
  rfl

/-- The acceptance of READCO2 writes the command buffer. -/
theorem beginExchange_withHidden (h : Hidden) (s : State) :
    (s.withHidden h).beginExchange = s.beginExchange.withHidden { h with txbuf := commandFrame } := by
  have flush : (s.withHidden h).cfg.autoFlush = s.cfg.autoFlush := rfl
  unfold State.beginExchange
  rw [flush]
  cases s.cfg.autoFlush <;> rfl

/-- The same byte stored at the same index of two buffers that agree below it: they then agree up to it. -/
theorem agree_after_frameSet {f f' g g' : Frame} {i : BitVec 4} {b : Byte} (hf : frameSet f i b = some f')
    (hg : frameSet g i b = some g') (agree : ∀ j : Nat, j < i.toNat → g[j]? = f[j]?) :
    ∀ j : Nat, j < i.toNat + 1 → g'[j]? = f'[j]? := by
  intro j hj
  rw [getElem?_of_frameSet hf, getElem?_of_frameSet hg]
  split
  case isTrue => rfl
  case isFalse other => exact agree j (by omega)

/-- A transmit step in two machines that differ unobserved. -/
theorem Unobserved.accept (unobserved : Unobserved u h) {a : Answers} {b : Byte} (htx : u.phase = .tx)
    (hnak : a.txNak = false) (hack : a.txAck = true) (offers : (u.sample a).offered = some b) :
    ∃ h', ExchangeMove (u.withHidden h) (.engine a) (((u.sample a).txWrite b).afterSent.withHidden h') ∧
      Unobserved ((u.sample a).txWrite b).afterSent h' := by
  have command : h.txbuf = u.txbuf := unobserved.command (by simp [htx])
  have offers' : ((u.withHidden h).sample a).offered = some b := by
    rw [← offers]
    simp [State.offered, State.withHidden, command]
  have sends : ExchangeMove (u.withHidden h) (.engine a) ((((u.sample a).txWrite b).withHidden h).afterSent) :=
    .accept a b htx hnak hack offers'
  rcases afterSent_cases ((u.sample a).txWrite b) with ⟨more, next⟩ | ⟨last, next⟩ <;> rw [next]
  · have next' : (((u.sample a).txWrite b).withHidden h).afterSent =
        { (u.sample a).txWrite b with idx := u.idx + 1 }.withHidden h := if_pos more
    refine ⟨h, next' ▸ sends, ?_⟩
    exact
      { pins := nofun
        command := fun _ => command
        timer := by simp [htx]
        received := by simp [htx]
        judged := by simp [htx] }
  · have next' : (((u.sample a).txWrite b).withHidden h).afterSent =
        { (u.sample a).txWrite b with idx := 0, tmo := u.cfg.readTimeoutTicks, phase := .rx }.withHidden
          { h with tmo := u.cfg.readTimeoutTicks } := if_neg last
    refine ⟨{ h with tmo := u.cfg.readTimeoutTicks }, next' ▸ sends, ?_⟩
    exact
      { pins := nofun
        command := fun _ => command
        timer := fun _ => rfl
        received := by simp
        judged := nofun }

/-- A receive step in two machines that differ unobserved. -/
theorem Unobserved.store (unobserved : Unobserved u h) {a : Answers} {b : Byte} {rest : List Byte} {f : Frame}
    (hrx : u.phase = .rx) (hq : u.rxq = b :: rest) (hf : frameSet u.rxbuf u.idx b = some f) :
    ∃ h', ExchangeMove (u.withHidden h) (.engine a)
        ({ u.sample a with rxbuf := f, rxq := rest }.afterStored.withHidden h') ∧
      Unobserved { u.sample a with rxbuf := f, rxq := rest }.afterStored h' := by
  have command : h.txbuf = u.txbuf := unobserved.command (by simp [hrx])
  obtain ⟨inside, -⟩ := frameSet_eq_some _ _ _ _ hf
  obtain ⟨g, hg⟩ : ∃ g, frameSet h.rxbuf u.idx b = some g := ⟨_, dif_pos inside⟩
  have agree := agree_after_frameSet hf hg (unobserved.received hrx)
  have stores := ExchangeMove.store (u := u.withHidden h) a b rest g hrx hq hg
  refine ⟨{ h with rxbuf := g }, afterStored_withHidden { h with rxbuf := g } _ ▸ stores, ?_⟩
  rcases afterStored_cases { u.sample a with rxbuf := f, rxq := rest } with ⟨more, next⟩ | ⟨last, next⟩ <;> rw [next]
  · exact
      { pins := nofun
        command := fun _ => command
        timer := unobserved.timer
        received := fun _ j hj => agree j (toNat_idx_succ u.idx more ▸ hj)
        judged := by simp [hrx] }
  · have idx_last := toNat_idx_last u.idx (Nat.le_of_lt_succ inside) last
    have equal : g = f := by
      apply Vector.ext
      intro j hj
      have byte := agree j (idx_last ▸ hj)
      rwa [Vector.getElem?_eq_getElem hj, Vector.getElem?_eq_getElem hj, Option.some_inj] at byte
    exact
      { pins := nofun
        command := fun _ => command
        timer := nofun
        received := nofun
        judged := fun _ => equal }

/-- The moves of an exchange in two machines that differ unobserved. -/
theorem Unobserved.exchangeMove (unobserved : Unobserved u h) {m : Move} (move : ExchangeMove u m v) :
    ∃ h', ExchangeMove (u.withHidden h) m (v.withHidden h') ∧ Unobserved v h' := by
  cases move with
  | present valid op rx tx =>
    exact ⟨h, .present valid op rx tx, unobserved.of_unchanged rfl rfl rfl rfl rfl rfl⟩
  | arrive b => exact ⟨h, .arrive b, unobserved.of_unchanged rfl rfl rfl rfl rfl rfl⟩
  | wait a idles => exact ⟨h, .wait a idles, unobserved.of_unchanged rfl rfl rfl rfl rfl rfl⟩
  | refuse a htx hnak => exact ⟨h, .refuse a htx hnak, .of_idle h rfl rfl⟩
  | accept a b htx hnak hack offers => exact unobserved.accept htx hnak hack offers
  | store a b rest f hrx hq hf => exact unobserved.store hrx hq hf
  | count a hrx hq htick more =>
    have timer : h.tmo = u.tmo := unobserved.timer hrx
    refine ⟨{ h with tmo := h.tmo - 1 }, .count a hrx hq htick (timer.symm ▸ more : 1 < h.tmo), ?_⟩
    exact
      { pins := nofun
        command := unobserved.command
        timer := fun _ => congrArg (· - 1) timer
        received := unobserved.received
        judged := unobserved.judged }
  | expire a hrx hq htick last =>
    have timer : h.tmo = u.tmo := unobserved.timer hrx
    exact ⟨{ h with tmo := 0 }, .expire a hrx hq htick (timer.symm ▸ last : h.tmo ≤ 1), .of_idle _ rfl rfl⟩
  | judge a hcheck =>
    have command : h.txbuf = u.txbuf := unobserved.command (by simp [hcheck])
    have received : h.rxbuf = u.rxbuf := unobserved.judged hcheck
    have judges : ExchangeMove (u.withHidden h) (.engine a) (judgeFrame h.rxbuf ((u.sample a).withHidden h)) :=
      .judge a hcheck
    rw [received, judgeFrame_withHidden h u.rxbuf (u.sample a) command] at judges
    exact ⟨h, judges, .of_idle h (by simp [judgeFrame]) (by simp [judgeFrame])⟩

/-! ## Every move and every run -/

/-- Every move in two machines that differ unobserved: they differ unobserved after it. -/
theorem Unobserved.moveCase (unobserved : Unobserved u h) {m : Move} (move : MoveCase u m v) :
    ∃ h', MoveCase (u.withHidden h) m (v.withHidden h') ∧ Unobserved v h' := by
  cases move with
  | exchange move =>
    obtain ⟨h', move', unobserved'⟩ := unobserved.exchangeMove move
    exact ⟨h', .exchange move', unobserved'⟩
  | init a hidle hvalid hop =>
    refine ⟨{ h with rxPin := u.opRxPin, txPin := u.opTxPin }, .init a hidle hvalid hop, ?_⟩
    exact { pins := fun _ => ⟨rfl, rfl⟩, command := by simp, timer := nofun, received := nofun, judged := nofun }
  | flush a hidle hvalid hop hopen => exact ⟨h, .flush a hidle hvalid hop hopen, .of_idle h rfl rfl⟩
  | closed a hidle hvalid hop hclosed => exact ⟨h, .closed a hidle hvalid hop hclosed, .of_idle h rfl rfl⟩
  | read a ready =>
    refine ⟨{ h with txbuf := commandFrame }, ?_, ?_⟩
    · have begins := MoveCase.read (s := u.withHidden h) a ready
      exact beginExchange_withHidden h { u.sample a with opValid := false } ▸ begins
    · exact { pins := by simp, command := by simp, timer := by simp, received := by simp, judged := by simp }
  | reset q =>
    exact ⟨⟨unwrittenPin, unwrittenPin, unwrittenFrame, unwrittenFrame, 0⟩, .reset q, .of_idle _ rfl rfl⟩

/-- Every run in two machines that differ unobserved. -/
theorem Unobserved.run {ms : List Move} (unobserved : Unobserved u h) (hrun : runMoves ms u = .next v) :
    ∃ h', runMoves ms (u.withHidden h) = .next (v.withHidden h') ∧ Unobserved v h' := by
  induction ms generalizing u h with
  | nil => cases hrun; exact ⟨h, rfl, unobserved⟩
  | cons m ms ih =>
    obtain ⟨w, hw, hrest⟩ := runMoves_cons_next m ms u v hrun
    obtain ⟨h', move, unobserved'⟩ := unobserved.moveCase (moveCase_of_performMove hw)
    obtain ⟨h'', hrest', unobserved''⟩ := ih unobserved' hrest
    exact ⟨h'', (runMoves_cons m ms _ _ (performMove_eq_next_iff.mpr move)).trans hrest', unobserved''⟩

/-- What is unobserved shows at no output but the pins. -/
theorem Unobserved.outputs (unobserved : Unobserved u h) :
    { (u.withHidden h).outputs with cfgRxPin := u.rxPin, cfgTxPin := u.txPin } = u.outputs := by
  have offered : (u.withHidden h).txData = u.txData := by
    by_cases htx : u.phase = .tx
    · have command : h.txbuf = u.txbuf := unobserved.command (by simp [htx])
      simp [State.txData, State.offered, State.withHidden, command]
    · simp [State.txData, State.withHidden, htx]
  simp only [State.outputs, offered]
  rfl

end

/-- Settles O51: in IDLE any contents are unobserved, and every run keeps them so. -/
theorem idleBuffersAreUnobservable : Obligations.IdleBuffersAreUnobservable := by
  intro s t ms rx tx f g n hidle hpins hrun
  have at_first : Unobserved s ⟨rx, tx, f, g, n⟩ := .of_idle _ hidle hpins
  obtain ⟨h, hrun', unobserved⟩ := at_first.run hrun
  exact ⟨t.withHidden h, hrun', unobserved.outputs, rfl, rfl, unobserved.pins⟩

end Sys2Proof.Machine
end

section
/-! PROOFS, 42_sequencer.md R148, R156: the bounded wait, along a run of moves and along a script. -/

namespace Sys2Proof.Machine

open Sys2Proof

/-! ## A script runs as its moves -/

/-- The state with other moves to come. -/
def State.withScript (l : List Move) (s : State) : State := { s with script := l }

section
variable (l : List Move) (s : State)

theorem afterSent_withScript : (s.withScript l).afterSent = s.afterSent.withScript l := by
  unfold State.afterSent
  rw [apply_ite (State.withScript l)]
  rfl

theorem afterStored_withScript : (s.withScript l).afterStored = s.afterStored.withScript l := by
  unfold State.afterStored
  rw [apply_ite (State.withScript l)]
  rfl

theorem judgeFrame_withScript (r : Frame) : judgeFrame r (s.withScript l) = (judgeFrame r s).withScript l := by
  unfold judgeFrame State.completeWith
  rw [apply_ite (State.withScript l)]
  rfl

theorem beginExchange_withScript : (s.withScript l).beginExchange = s.beginExchange.withScript l := by
  have flush : (s.withScript l).cfg.autoFlush = s.cfg.autoFlush := rfl
  unfold State.beginExchange
  rw [flush]
  cases s.cfg.autoFlush <;> rfl

end

section
variable {s t : State} {m : Move}

/-- No step of an exchange reads the moves to come. -/
theorem ExchangeMove.withScript (l : List Move) (move : ExchangeMove s m t) :
    ExchangeMove (s.withScript l) m (t.withScript l) := by
  cases move with
  | present valid op rx tx => exact .present valid op rx tx
  | arrive b => exact .arrive b
  | wait a idles => exact .wait a idles
  | refuse a htx hnak => exact .refuse a htx hnak
  | accept a b htx hnak hack offers =>
    exact afterSent_withScript l ((s.sample a).txWrite b) ▸ ExchangeMove.accept a b htx hnak hack offers
  | store a b rest f hrx hq hf =>
    exact afterStored_withScript l { s.sample a with rxbuf := f, rxq := rest } ▸ ExchangeMove.store a b rest f hrx hq hf
  | count a hrx hq htick more => exact .count a hrx hq htick more
  | expire a hrx hq htick last => exact .expire a hrx hq htick last
  | judge a hcheck => exact judgeFrame_withScript l (s.sample a) s.rxbuf ▸ ExchangeMove.judge a hcheck

/-- No move reads the moves to come. -/
theorem performMove_withScript (l : List Move) (h : performMove m s = .next t) :
    performMove m (s.withScript l) = .next (t.withScript l) := by
  rw [performMove_eq_next_iff] at h ⊢
  cases h with
  | exchange move => exact .exchange (move.withScript l)
  | init a hidle hvalid hop => exact .init a hidle hvalid hop
  | flush a hidle hvalid hop hopen => exact .flush a hidle hvalid hop hopen
  | closed a hidle hvalid hop hclosed => exact .closed a hidle hvalid hop hclosed
  | read a ready =>
    exact beginExchange_withScript l { s.sample a with opValid := false } ▸ MoveCase.read (s := s.withScript l) a ready
  | reset q => exact .reset q

/-- As many steps as a script has moves perform these moves. -/
theorem run_of_script {ms more : List Move} (scripted : s.script = ms ++ more)
    (hrun : runMoves ms (s.withScript more) = .next t) : Host.Core.run core ms.length s = .next t := by
  induction ms generalizing s with
  | nil =>
    have same : s.withScript more = s := by rw [← List.nil_append more, ← scripted]; rfl
    rw [same] at hrun
    exact hrun
  | cons m ms ih =>
    obtain ⟨u, hu, hrest⟩ := runMoves_cons_next m ms _ t hrun
    have script_kept : u.script = more := (configurationIsNeverWritten _ u m hu).2.1
    have is_step : core.step s = .next (u.withScript (ms ++ more)) :=
      (stepPerformsNextMove.1 s m (ms ++ more) scripted).trans
        (performMove_withScript (s := s.withScript more) (ms ++ more) hu)
    have rest : Host.Core.run core ms.length (u.withScript (ms ++ more)) = .next t := by
      refine ih rfl ?_
      have same : (u.withScript (ms ++ more)).withScript more = u := by rw [← script_kept]; rfl
      rwa [same]
    simp only [List.length_cons, Host.Core.run, is_step]
    exact rest

end

/-! ## The window (R148) -/

/-- Turns with a tick and no byte waiting, fewer than the timer holds: each counts one tick and changes nothing else. -/
theorem window_counts {answers : List Answers} {u : State} (hrx : u.phase = .rx) (hq : u.rxq = [])
    (ticking : (answers.all fun a => a.tick) = true) (within : answers.length < u.tmo) :
    ∃ v, runMoves (answers.map .engine) u = .next v ∧ v.phase = .rx ∧ v.idx = u.idx ∧
      v.tmo = u.tmo - answers.length ∧ v.done = u.done ∧ v.rxbuf = u.rxbuf ∧ v.rxq = [] ∧ v.txlog = u.txlog := by
  induction answers generalizing u with
  | nil => exact ⟨u, rfl, hrx, rfl, rfl, rfl, rfl, hq, rfl⟩
  | cons a answers ih =>
    simp only [List.all_cons, Bool.and_eq_true] at ticking
    simp only [List.length_cons] at within
    have counts : performMove (.engine a) u = .next { u.sample a with tmo := u.tmo - 1 } :=
      performMove_of_exchangeMove (.count a hrx hq ticking.1 (by omega))
    have still_within : answers.length < u.tmo - 1 := by omega
    obtain ⟨v, hrun, phase, idx, tmo, others⟩ :=
      ih (u := { u.sample a with tmo := u.tmo - 1 }) hrx hq ticking.2 still_within
    refine ⟨v, (runMoves_cons _ _ u _ counts).trans hrun, phase, idx, ?_, others⟩
    rw [tmo, List.length_cons, Nat.sub_sub, Nat.add_comm]

/-- Settles O58: below the timer the turns count, and the turn that counts the last tick expires the window. -/
theorem windowLastsItsTicks : Obligations.WindowLastsItsTicks := by
  intro s answers more hrx hq some_turn within ticking scripted
  suffices ∃ t, runMoves (answers.map .engine) (s.withScript more) = .next t ∧ _ by
    obtain ⟨t, hrun, ends⟩ := this
    exact ⟨t, by simpa using run_of_script scripted hrun, ends⟩
  rcases Nat.lt_or_eq_of_le within with below | reached
  · obtain ⟨v, hrun, phase, idx, tmo, hdone, rxbuf, rxq, txlog⟩ :=
      window_counts (u := s.withScript more) hrx hq ticking below
    exact ⟨v, hrun, rxbuf, rxq, txlog, fun _ => ⟨phase, idx, tmo, hdone⟩, fun whole => absurd whole below.ne⟩
  · rcases answers.eq_nil_or_concat' with rfl | ⟨before, a, rfl⟩
    · simp at some_turn
    · simp only [List.all_append, Bool.and_eq_true, List.all_cons] at ticking
      obtain ⟨ticked, htick, -⟩ := ticking
      rw [List.length_append, List.length_singleton] at reached
      have below : before.length < s.tmo := by omega
      obtain ⟨v, hrun, phase, -, tmo, -, rxbuf, rxq, txlog⟩ :=
        window_counts (u := s.withScript more) hrx hq ticked below
      have tmo : v.tmo = s.tmo - before.length := tmo
      have expires : performMove (.engine a) v = .next ({ v.sample a with tmo := 0 }.complete .read 0) :=
        performMove_of_exchangeMove (.expire a phase rxq htick (by omega))
      refine ⟨{ v.sample a with tmo := 0 }.complete .read 0, ?_, rxbuf, rxq, txlog, fun short => ?_,
        fun _ => ⟨rfl, rfl, rfl, rfl, rfl, rfl, rfl⟩⟩
      · rw [List.map_append]
        exact runMoves_concat _ _ _ v _ hrun expires
      · simp only [List.length_append, List.length_singleton] at short
        omega

/-! ## The bound of the whole read (R156) -/

/-- The turns with a tick that can still pass before the read ends: one for each byte to take and for each tick of the
window, and the judgement after the ninth byte. -/
def State.turnsLeft (u : State) : Nat :=
  match u.phase with
  | .rx => (9 - u.idx.toNat) + max 1 u.tmo
  | .check => 1
  | .idle => 0
  | .tx => 0

theorem State.turnsLeft_rx {u : State} (hrx : u.phase = .rx) :
    u.turnsLeft = (9 - u.idx.toNat) + max 1 u.tmo := by simp [State.turnsLeft, hrx]

theorem State.turnsLeft_check {u : State} (hcheck : u.phase = .check) : u.turnsLeft = 1 := by
  simp [State.turnsLeft, hcheck]

/-- A frame is being received, or has been. -/
def State.receiving (u : State) : Prop := u.idx.toNat ≤ 8 ∧ (u.phase = .rx ∨ u.phase = .check)

/-- The read has ended, with one of the codes it can end with once the frame is sent. -/
def State.readEnded (t : State) : Prop :=
  t.done = true ∧ t.phase = .idle ∧ t.status ∈ ([0x00, 0xFD, 0xFC, 0xFB] : List Byte)

section
variable {u v : State} {m : Move}

/-- A state with the same phase, index and timer is as far from the end. -/
theorem receiving_congr (h : u.receiving) (phase : v.phase = u.phase) (idx : v.idx = u.idx) (tmo : v.tmo = u.tmo) :
    v.receiving ∧ v.turnsLeft = u.turnsLeft := by
  unfold State.receiving State.turnsLeft at *
  rw [phase, idx, tmo]
  exact ⟨h, rfl⟩

/-- A stored byte brings the end one turn nearer. -/
theorem receiving_store (h : u.receiving) (hrx : u.phase = .rx) :
    u.afterStored.receiving ∧ u.afterStored.turnsLeft + 1 ≤ u.turnsLeft := by
  obtain ⟨idx_le, -⟩ := h
  rw [State.turnsLeft_rx hrx]
  rcases afterStored_cases u with ⟨more, next⟩ | ⟨last, next⟩ <;> rw [next]
  · have idx_succ := toNat_idx_succ u.idx more
    have more : u.idx.toNat < 8 := more
    rw [State.turnsLeft_rx (by exact hrx)]
    exact ⟨⟨by simp only [idx_succ]; omega, .inl hrx⟩, by simp only [idx_succ]; omega⟩
  · have idx_last := toNat_idx_last u.idx idx_le last
    rw [State.turnsLeft_check rfl]
    exact ⟨⟨Nat.zero_le 8, .inr rfl⟩, by omega⟩

/-- The judgement of a frame ends the read. -/
theorem readEnded_judgeFrame (r : Frame) (s : State) : (judgeFrame r s).readEnded := by
  refine ⟨by simp [judgeFrame], by simp [judgeFrame], ?_⟩
  obtain ⟨status, -⟩ := result_judgeFrame r s
  rw [status]
  rcases validate_cases r s.sentCommand with ⟨-, answer⟩ | ⟨-, -, answer⟩ | ⟨-, -, answer⟩ <;> rw [answer]
  · decide
  · decide
  · exact List.mem_cons_self

/-- Every move of a read ends it or leaves its end no farther, and every turn with a tick brings it nearer. -/
theorem receiving_move (h : u.receiving) (move : ExchangeMove u m v) :
    v.readEnded ∨ (v.receiving ∧ v.turnsLeft + (if m.ticks then 1 else 0) ≤ u.turnsLeft) := by
  cases move with
  | present valid op rx tx =>
    obtain ⟨going, same⟩ := receiving_congr (v := u.present valid op rx tx) h rfl rfl rfl
    exact .inr ⟨going, same.le⟩
  | arrive b =>
    obtain ⟨going, same⟩ := receiving_congr (v := u.arrived b) h rfl rfl rfl
    exact .inr ⟨going, same.le⟩
  | wait a idles =>
    obtain ⟨going, same⟩ := receiving_congr (v := u.sample a) h rfl rfl rfl
    have no_tick : a.tick = false := by
      rcases h.2 with hrx | hcheck
      · have : u.rxValid = false ∧ a.tick = false := by simpa [isEngineStep, hrx] using idles
        exact this.2
      · simp [isEngineStep, hcheck] at idles
    exact .inr ⟨going, by simp [Move.ticks, no_tick, same]⟩
  | refuse a htx | accept a b htx => simp [State.receiving, htx] at h
  | store a b rest f hrx hq hf =>
    obtain ⟨before, same⟩ := receiving_congr (v := { u.sample a with rxbuf := f, rxq := rest }) h rfl rfl rfl
    obtain ⟨going, nearer⟩ := receiving_store before hrx
    refine .inr ⟨going, ?_⟩
    rw [← same]
    split <;> omega
  | count a hrx hq htick more =>
    refine .inr ⟨h, ?_⟩
    rw [State.turnsLeft_rx hrx, State.turnsLeft_rx (by exact hrx)]
    simp only [Move.ticks, htick, if_true]
    change 9 - u.idx.toNat + max 1 (u.tmo - 1) + 1 ≤ _
    omega
  | expire a hrx hq htick last => exact .inl ⟨rfl, rfl, by simp⟩
  | judge a hcheck => exact .inl (readEnded_judgeFrame u.rxbuf (u.sample a))

/-- A read with fewer turns to its end than turns with a tick to come ends. -/
theorem receiving_ends {ms : List Move} (h : u.receiving) (no_reset : (ms.all fun m => !m.isReset) = true)
    (enough : u.turnsLeft ≤ (ms.filter Move.ticks).length) :
    ∃ (n : Nat) (t : State), runMoves (ms.take n) u = .next t ∧ t.readEnded := by
  induction ms generalizing u with
  | nil =>
    have some_left : 1 ≤ u.turnsLeft := by
      rcases h.2 with hrx | hcheck
      · rw [State.turnsLeft_rx hrx]; omega
      · rw [State.turnsLeft_check hcheck]
    exact absurd (some_left.trans enough) (by simp)
  | cons m ms ih =>
    simp only [List.all_cons, Bool.and_eq_true, Bool.not_eq_true'] at no_reset
    obtain ⟨hm, hms⟩ := no_reset
    have busy : u.phase ≠ .idle := by rcases h.2 with hp | hp <;> simp [hp]
    obtain ⟨v, hv⟩ := performMove_answers_busy m busy h.1
    rcases receiving_move h (exchangeMove_of_performMove busy hm hv) with ended | ⟨going, nearer⟩
    · exact ⟨1, v, runMoves_cons m [] u v hv, ended⟩
    · have counted : (List.filter Move.ticks (m :: ms)).length =
          (if m.ticks then 1 else 0) + (ms.filter Move.ticks).length := by
        rw [List.filter_cons]
        split <;> simp [Nat.add_comm]
      obtain ⟨n, t, hrun, ended⟩ := ih going hms (by omega)
      exact ⟨n + 1, t, (runMoves_cons m (ms.take n) u v hv).trans hrun, ended⟩

end

/-- Settles O57: the turns left at the start of a read are the bound. -/
theorem readEndsWithinItsBound : Obligations.ReadEndsWithinItsBound := by
  intro s ms hrx idx_le no_reset enough
  exact receiving_ends ⟨idx_le, .inl hrx⟩ no_reset ((State.turnsLeft_rx hrx).trans_le enough)

end Sys2Proof.Machine
end

section
/-! PROOFS, 10_state.md R44 and 20_memory.md R54, R55: a READCO2 that gets its nine bytes, from the acceptance to the
result. -/

namespace Sys2Proof.Machine

open Sys2Proof

/-! ## Runs within bounds -/

/-- Every move of a run is allowed, and so many bytes arrive at most and so many moves are counted at most. -/
structure Within (allowed counted : Move → Bool) (bytes count : Nat) (ms : List Move) : Prop where
  all_allowed : (ms.all allowed) = true
  bytes_le    : (arrivals ms).length ≤ bytes
  count_le    : (ms.filter counted).length ≤ count

section
variable {allowed counted : Move → Bool} {bytes count : Nat} {ms : List Move}

/-- A run within bounds is within them before its last move, which is allowed. -/
theorem Within.of_concat {m : Move} (h : Within allowed counted bytes count (ms ++ [m])) :
    Within allowed counted bytes count ms ∧ allowed m = true := by
  obtain ⟨all_allowed, bytes_le, count_le⟩ := h
  rw [List.all_append, Bool.and_eq_true, List.all_cons, Bool.and_eq_true] at all_allowed
  rw [arrivals_append, List.length_append] at bytes_le
  rw [List.filter_append, List.length_append] at count_le
  exact ⟨⟨all_allowed.1, Nat.le_of_add_right_le bytes_le, Nat.le_of_add_right_le count_le⟩, all_allowed.2.1⟩

/-- With no byte allowed none arrives. -/
theorem Within.quiet (h : Within allowed counted 0 count ms) : arrivals ms = [] :=
  List.eq_nil_of_length_eq_zero (Nat.le_zero.mp h.bytes_le)

/-- What every move within bounds keeps, of the moves made and the state they lead to, and which lets it be performed,
holds at the end of every run within them. -/
theorem runMoves_goes {s1 : State} (Going : List Move → State → Prop) (starts : Going [] s1)
    (goes : ∀ (past : List Move) (m : Move) (u : State), runMoves past s1 = .next u → Going past u →
      Within allowed counted bytes count (past ++ [m]) → ∃ v, performMove m u = .next v ∧ Going (past ++ [m]) v)
    (within : Within allowed counted bytes count ms) : ∃ u, runMoves ms s1 = .next u ∧ Going ms u := by
  induction ms using List.reverseRecOn with
  | nil => exact ⟨s1, rfl, starts⟩
  | append_singleton ms m ih =>
    obtain ⟨u, hrun, going⟩ := ih within.of_concat.1
    obtain ⟨v, hv, going'⟩ := goes ms m u hrun going within
    exact ⟨v, runMoves_concat ms m s1 u v hrun hv, going'⟩

end

/-- No run writes the configuration. -/
theorem cfg_of_runMoves {ms : List Move} {s t : State} (hrun : runMoves ms s = .next t) : t.cfg = s.cfg :=
  runMoves_keeps (fun _ => true) (fun _ u => u.cfg = s.cfg)
    (fun _ m u v kept _ hv => (configurationIsNeverWritten u v m hv).1.trans kept) (past := []) rfl (by simp) hrun

/-- A list with more than `k` members that satisfy `p` has a beginning with `k` of them that one more ends. -/
theorem exists_take_counted {α : Type} (p : α → Bool) {l : List α} {k : Nat} (h : k < (l.filter p).length) :
    ∃ (n : Nat) (before : List α) (last : α), l.take n = before ++ [last] ∧ p last = true ∧
      (before.filter p).length = k := by
  induction l generalizing k with
  | nil => simp at h
  | cons x l ih =>
    cases hx : p x
    · rw [List.filter_cons_of_neg (by simp [hx])] at h
      obtain ⟨n, before, last, beginning, hlast, count⟩ := ih h
      exact ⟨n + 1, x :: before, last, by simp [beginning], hlast, by simp [hx, count]⟩
    · rw [List.filter_cons_of_pos hx, List.length_cons] at h
      cases k with
      | zero => exact ⟨1, [], x, rfl, hx, rfl⟩
      | succ k =>
        obtain ⟨n, before, last, beginning, hlast, count⟩ := ih (Nat.lt_of_succ_lt_succ h)
        exact ⟨n + 1, x :: before, last, by simp [beginning], hlast, by simp [hx, count]⟩

section
variable {s s1 u : State} {past : List Move}

/-- The next move of an exchange that is being followed. -/
theorem Followed.next {taken : List Byte} (f : Followed s s1 past taken u) {m : Move} (hm : m.isReset = false) :
    ∃ v, performMove m u = .next v ∧ ExchangeMove u m v := by
  obtain ⟨v, hv⟩ := performMove_answers_busy m f.books.busy f.books.idx_le
  exact ⟨v, hv, exchangeMove_of_performMove f.books.busy hm hv⟩

/-! ## The nine acknowledgements (42_sequencer.md R145) -/

/-- Moves before the ninth acknowledgement: nothing is refused, nothing arrives, at most eight bytes are accepted. -/
def BeforeNinthAck : List Move → Prop := Within (fun m => !m.isReset && !m.refuses) Move.accepts 0 8

/-- The frame is being sent, and `idx` counts the acknowledgements. -/
def Sending (s s1 : State) (past : List Move) (u : State) : Prop :=
  Following s s1 past u ∧ u.phase = .tx ∧ u.idx.toNat = (past.filter Move.accepts).length

/-- Before the ninth acknowledgement every move goes on sending. -/
theorem Sending.goes (past : List Move) (m : Move) (u : State) (hrun : runMoves past s1 = .next u)
    (sending : Sending s s1 past u) (within : BeforeNinthAck (past ++ [m])) :
    ∃ v, performMove m u = .next v ∧ Sending s s1 (past ++ [m]) v := by
  obtain ⟨⟨taken, f⟩, htx, count⟩ := sending
  have ⟨no_reset, no_refusal⟩ : m.isReset = false ∧ m.refuses = false := by simpa using within.of_concat.2
  have quiet := within.quiet
  have acks_le := within.count_le
  rw [List.filter_append, List.length_append, ← count] at acks_le
  obtain ⟨v, hv, move⟩ := f.next no_reset
  have pending := f.books.pending
  refine ⟨v, hv, ?_⟩
  unfold Sending
  rw [List.filter_append, List.length_append, ← count]
  cases move with
  | present valid op rx tx => exact ⟨f.keeps hrun (.present valid op rx tx) pending, htx, rfl⟩
  | arrive b => simp [arrivals_append, arrivals] at quiet
  | wait a idles =>
    have ⟨no_ack, no_nak⟩ : a.txAck = false ∧ a.txNak = false := by simpa [isEngineStep, htx] using idles
    exact ⟨f.keeps hrun (.wait a idles) pending, htx, by simp [Move.accepts, no_ack]⟩
  | refuse a _ hnak => simp [Move.refuses, hnak] at no_refusal
  | accept a b _ hnak hack offers =>
    have accepts : (List.filter Move.accepts [.engine a]).length = 1 := by simp [Move.accepts, hnak, hack]
    rw [accepts] at acks_le ⊢
    have more : u.idx < 8 := acks_le
    have next : ((u.sample a).txWrite b).afterSent = { (u.sample a).txWrite b with idx := u.idx + 1 } := if_pos more
    refine ⟨f.keeps hrun (.accept a b htx hnak hack offers) (by simpa using pending), ?_⟩
    rw [next]
    exact ⟨htx, toNat_idx_succ u.idx more⟩
  | store a b rest g elsewhere | count a elsewhere | expire a elsewhere | judge a elsewhere => simp [htx] at elsewhere

/-- A frame that ENV accepts whole is eight acknowledgements and whatever else is allowed, and then the ninth. -/
theorem AcceptsFrame.eq_concat {ms : List Move} (h : AcceptsFrame ms) :
    ∃ (before : List Move) (a : Answers), ms = before ++ [.engine a] ∧ a.txAck = true ∧ a.txNak = false ∧
      BeforeNinthAck before ∧ (before.filter Move.accepts).length = 8 := by
  obtain ⟨quiet, allowed, count, last⟩ := h
  rcases ms.eq_nil_or_concat' with rfl | ⟨before, m, rfl⟩
  · simp at last
  · have accepts : m.accepts = true := by simpa using last
    rw [List.filter_append, List.filter_cons_of_pos accepts, List.filter_nil, List.length_append] at count
    have eight : (before.filter Move.accepts).length = 8 := Nat.succ_injective count
    rw [arrivals_append, List.append_eq_nil_iff] at quiet
    rw [List.all_append, Bool.and_eq_true] at allowed
    cases m with
    | engine a =>
      have ⟨hack, hnak⟩ : a.txAck = true ∧ a.txNak = false := by simpa [Move.accepts] using accepts
      exact ⟨before, a, rfl, hack, hnak, ⟨allowed.1, by simp [quiet.1], eight.le⟩, eight⟩
    | _ => cases accepts

/-- Nine acknowledgements open the window of a READCO2 accepted at `s`: RX at index 0, the timer loaded. -/
theorem acknowledged_frame (s : State) (accept : Answers) {ms : List Move} (h : AcceptsFrame ms) :
    ∃ u, runMoves ms { s.sample accept with opValid := false }.beginExchange = .next u ∧
      Following s { s.sample accept with opValid := false }.beginExchange ms u ∧ u.phase = .rx ∧ u.idx = 0 ∧
      u.tmo = s.cfg.readTimeoutTicks := by
  obtain ⟨before, a, rfl, hack, hnak, within, eight⟩ := h.eq_concat
  have starts : Sending s { s.sample accept with opValid := false }.beginExchange []
      { s.sample accept with opValid := false }.beginExchange :=
    ⟨⟨[], Followed.beginExchange s accept⟩, by simp, by simp⟩
  obtain ⟨u, hrun, ⟨taken, f⟩, htx, count⟩ :=
    runMoves_goes _ starts Sending.goes within
  have idx_last : u.idx.toNat = 8 := count.trans eight
  have offers : (u.sample a).offered = some commandFrameBytes[8] := by
    rw [(f.books.sample a).offered]
    simp [idx_last]
  have move : ExchangeMove u (.engine a) ((u.sample a).txWrite commandFrameBytes[8]).afterSent :=
    .accept a _ htx hnak hack offers
  have last : ¬ u.idx < 8 := Nat.not_lt.mpr idx_last.ge
  have next : ((u.sample a).txWrite commandFrameBytes[8]).afterSent =
      { (u.sample a).txWrite commandFrameBytes[8] with
        idx := 0, tmo := u.cfg.readTimeoutTicks, phase := .rx } := if_neg last
  have cfg_kept : u.cfg = s.cfg := (cfg_of_runMoves hrun).trans (by simp)
  have followed := f.keeps hrun move (by simpa using f.books.pending)
  refine ⟨_, runMoves_concat _ _ _ _ _ hrun (performMove_of_exchangeMove move), followed, ?_⟩
  rw [next]
  exact ⟨rfl, rfl, congrArg Config.readTimeoutTicks cfg_kept⟩

/-! ## The nine bytes and the judgement (42_sequencer.md R147, R149) -/

/-- What a READCO2 accepted at `s` leaves when it has sent its frame and taken the nine bytes `r`, with `after` behind
them in the queue: the result of VALIDATE. -/
structure Answered (s : State) (r : Frame) (after : List Byte) (t : State) : Prop where
  done    : t.done = true
  idle    : t.phase = .idle
  status  : t.status = codeByte (validate r 0x86).1
  reading : t.reading = (validate r 0x86).2
  rdValid : t.rdValid = true ↔ (validate r 0x86).1 = .ok
  rxbuf   : t.rxbuf = r
  rxq     : t.rxq = after
  txlog   : t.txlog = s.txlog ++ commandFrameBytes.toList

/-- In CHECK the nine bytes taken are those that stood first among the bytes there were to read, and the turn judges
them. -/
theorem Followed.answered {taken : List Byte} (f : Followed s s1 past taken u) (hcheck : u.phase = .check) {r : Frame}
    {after : List Byte} (supply : readable (arrivals past) s = r.toList ++ after) (a : Answers) :
    performMove (.engine a) u = .next (judgeFrame u.rxbuf (u.sample a)) ∧
    Answered s r after (judgeFrame u.rxbuf (u.sample a)) := by
  have nine : taken.length = r.toList.length := by
    rw [f.books.count, State.takenSoFar_check hcheck, Vector.length_toList]
  obtain ⟨taken_eq, rest_eq⟩ : taken = r.toList ∧ u.rxq = after :=
    List.append_inj (f.books.supply.symm.trans supply) nine
  have received : u.rxbuf = r := by rw [f.stored, taken_eq, storeBytes_toList]
  have command : (u.sample a).sentCommand = 0x86 := by
    have built : u.sentCommand = commandFrameBytes[Config.cmdPos] := by simp [State.sentCommand, f.books.built]
    exact built.trans rfl
  obtain ⟨status, reading, rdValid⟩ := result_judgeFrame r (u.sample a)
  rw [command] at status reading rdValid
  refine ⟨performMove_of_exchangeMove (.judge a hcheck), ?_⟩
  rw [received]
  exact
    { done := by simp [judgeFrame]
      idle := by simp [judgeFrame]
      status := status
      reading := reading
      rdValid := rdValid
      rxbuf := by simp [judgeFrame, received]
      rxq := by simp [judgeFrame, rest_eq]
      txlog := by simp [judgeFrame, f.books.sent, State.sentSoFar_check hcheck] }

/-- Moves before the judgement when `k` bytes are still to take: nothing arrives, and there are at most `k` turns. -/
def BeforeJudgement (k : Nat) : List Move → Prop := Within (fun m => !m.isReset) Move.isTurn 0 k

/-- Since the moves `past` every turn has taken a byte, of which `i` had been taken. -/
def Taking (s s1 : State) (past : List Move) (i : Nat) (ms : List Move) (u : State) : Prop :=
  Following s s1 (past ++ ms) u ∧ (u.phase = .rx ∨ u.phase = .check) ∧
    u.takenSoFar = i + (ms.filter Move.isTurn).length

/-- A stored byte is one more taken. -/
theorem takenSoFar_afterStored (u : State) (hrx : u.phase = .rx) (idx_le : u.idx.toNat ≤ 8) :
    (u.afterStored.phase = .rx ∨ u.afterStored.phase = .check) ∧ u.afterStored.takenSoFar = u.idx.toNat + 1 := by
  rcases afterStored_cases u with ⟨more, next⟩ | ⟨last, next⟩ <;> rw [next]
  · exact ⟨.inl hrx, (State.takenSoFar_rx (by exact hrx)).trans (toNat_idx_succ u.idx more)⟩
  · rw [toNat_idx_last u.idx idx_le last]
    exact ⟨.inr rfl, State.takenSoFar_check rfl⟩

/-- As long as bytes are to be taken every turn takes one, whether or not it has a tick. -/
theorem Taking.goes {i : Nat} {r : Frame} {after : List Byte}
    (supply : readable (arrivals past) s = r.toList ++ after) {v1 : State} (hpast : runMoves past s1 = .next v1)
    (ms : List Move) (m : Move) (u : State) (hrun : runMoves ms v1 = .next u) (taking : Taking s s1 past i ms u)
    (within : BeforeJudgement (9 - i) (ms ++ [m])) :
    ∃ v, performMove m u = .next v ∧ Taking s s1 past i (ms ++ [m]) v := by
  obtain ⟨⟨taken, f⟩, hphase, count⟩ := taking
  have no_reset : m.isReset = false := by simpa using within.of_concat.2
  have quiet : arrivals ms = [] := within.of_concat.1.quiet
  have quiet_move := within.quiet
  have turns_le := within.count_le
  rw [List.filter_append, List.length_append] at turns_le
  obtain ⟨v, hv, move⟩ := f.next no_reset
  have whole_run : runMoves (past ++ ms) s1 = .next u := (runMoves_append past ms s1 v1 hpast).trans hrun
  have pending := f.books.pending
  have in_rx_unless_nine (h : u.takenSoFar ≠ 9) : u.phase = .rx :=
    hphase.resolve_right fun hcheck => h (State.takenSoFar_check hcheck)
  have byte_waits (h : taken.length < 9) : u.rxq ≠ [] := by
    intro hq
    have whole := f.books.supply
    rw [arrivals_append, quiet, List.append_nil, supply, hq, List.append_nil] at whole
    have nine : r.toList.length = 9 := Vector.length_toList
    have lengths := congrArg List.length whole
    rw [List.length_append, nine] at lengths
    omega
  refine ⟨v, hv, ?_⟩
  unfold Taking
  rw [List.filter_append, List.length_append, ← Nat.add_assoc, ← count, ← List.append_assoc]
  cases move with
  | present valid op rx tx => exact ⟨f.keeps whole_run (.present valid op rx tx) pending, hphase, rfl⟩
  | arrive b => simp [arrivals_append, arrivals] at quiet_move
  | wait a idles =>
    have one : (List.filter Move.isTurn [.engine a]).length = 1 := rfl
    have hrx := in_rx_unless_nine (by omega)
    have waits := byte_waits (by rw [f.books.count]; omega)
    simp [isEngineStep, hrx, State.rxValid, waits] at idles
  | store a b rest g hrx hq hg =>
    refine ⟨f.keeps whole_run (.store a b rest g hrx hq hg) (by simpa using pending), ?_⟩
    have one_more := takenSoFar_afterStored { u.sample a with rxbuf := g, rxq := rest } hrx f.books.idx_le
    rw [State.takenSoFar_rx hrx]
    exact one_more
  | refuse a elsewhere | accept a b elsewhere => simp [elsewhere] at hphase
  | count a hrx hq | expire a hrx hq =>
    have idx_le := f.books.idx_le
    exact absurd hq (byte_waits (by rw [f.books.count, State.takenSoFar_rx hrx]; omega))
  | judge a hcheck =>
    have nine := State.takenSoFar_check hcheck
    have one : (List.filter Move.isTurn [.engine a]).length = 1 := rfl
    omega

/-- In RX, with the rest of nine bytes in the queue, as many turns as bytes are to be taken and one more: the READCO2
ends with the judgement of the nine bytes. -/
theorem response_judged (hpast : runMoves past s1 = .next u) (following : Following s s1 past u) (hrx : u.phase = .rx)
    {r : Frame} {after : List Byte} (supply : readable (arrivals past) s = r.toList ++ after) {ms : List Move}
    (within : BeforeJudgement (9 - u.idx.toNat) ms) (turns : (ms.filter Move.isTurn).length = 9 - u.idx.toNat)
    (a : Answers) : ∃ t, runMoves (ms ++ [.engine a]) u = .next t ∧ Answered s r after t := by
  have starts : Taking s s1 past u.idx.toNat [] u :=
    ⟨by rwa [List.append_nil], .inl hrx, State.takenSoFar_rx hrx⟩
  obtain ⟨v, hrun, ⟨taken, f⟩, hphase, count⟩ :=
    runMoves_goes _ starts (Taking.goes supply hpast) within
  have idx_le : u.idx.toNat ≤ 8 := by
    obtain ⟨_, g⟩ := following
    exact g.books.idx_le
  have hcheck : v.phase = .check := by
    refine hphase.resolve_left fun hrx => ?_
    have := f.books.idx_le
    rw [State.takenSoFar_rx hrx] at count
    omega
  obtain ⟨judges, answered⟩ :=
    f.answered hcheck (by rwa [arrivals_append, within.quiet, List.append_nil]) a
  exact ⟨_, runMoves_concat _ _ _ _ _ hrun judges, answered⟩

/-! ## The bytes that arrive in time (10_state.md R44) -/

/-- Moves before the ninth byte of a response: at most eight bytes arrive, and fewer than `window` turns have a tick. -/
def BeforeNinthByte (window : Nat) : List Move → Prop := Within (fun m => !m.isReset) Move.ticks 8 (window - 1)

/-- Since the window was opened, by the moves `past`, every tick has cost the timer at most one. -/
def Awaiting (s s1 : State) (past : List Move) (ms : List Move) (u : State) : Prop :=
  Following s s1 (past ++ ms) u ∧ u.phase = .rx ∧ s.cfg.readTimeoutTicks ≤ u.tmo + (ms.filter Move.ticks).length

/-- Before the ninth byte and the last tick of the window every move stays in RX. -/
theorem Awaiting.goes (nothing_stale : readable (arrivals past) s = []) {v1 : State}
    (hpast : runMoves past s1 = .next v1) (ms : List Move) (m : Move) (u : State) (hrun : runMoves ms v1 = .next u)
    (awaiting : Awaiting s s1 past ms u) (within : BeforeNinthByte s.cfg.readTimeoutTicks (ms ++ [m])) :
    ∃ v, performMove m u = .next v ∧ Awaiting s s1 past (ms ++ [m]) v := by
  obtain ⟨⟨taken, f⟩, hrx, timer⟩ := awaiting
  have no_reset : m.isReset = false := by simpa using within.of_concat.2
  have bytes_le := within.of_concat.1.bytes_le
  have ticks_le := within.count_le
  rw [List.filter_append, List.length_append] at ticks_le
  obtain ⟨v, hv, move⟩ := f.next no_reset
  have whole_run : runMoves (past ++ ms) s1 = .next u := (runMoves_append past ms s1 v1 hpast).trans hrun
  have pending := f.books.pending
  refine ⟨v, hv, ?_⟩
  unfold Awaiting
  rw [List.filter_append, List.length_append, ← List.append_assoc]
  cases move with
  | present valid op rx tx => exact ⟨f.keeps whole_run (.present valid op rx tx) pending, hrx, timer⟩
  | arrive b => exact ⟨f.keeps whole_run (.arrive b) pending, hrx, timer⟩
  | wait a idles => exact ⟨f.keeps whole_run (.wait a idles) pending, hrx, timer.trans (by simp)⟩
  | store a b rest g _ hq hg =>
    have more : u.idx < 8 := by
      have supply := congrArg List.length f.books.supply
      rw [arrivals_append, readable_append, nothing_stale, List.nil_append, List.length_append, hq,
        List.length_cons, f.books.count, State.takenSoFar_rx hrx] at supply
      change u.idx.toNat < 8
      omega
    have next : { u.sample a with rxbuf := g, rxq := rest }.afterStored =
        { u.sample a with rxbuf := g, rxq := rest, idx := u.idx + 1 } := if_pos more
    refine ⟨f.keeps whole_run (.store a b rest g hrx hq hg) (by simpa using pending), ?_⟩
    rw [next]
    exact ⟨hrx, timer.trans (by simp)⟩
  | count a _ hq htick more =>
    have one : (List.filter Move.ticks [.engine a]).length = 1 := by simp [Move.ticks, htick]
    refine ⟨f.keeps whole_run (.count a hrx hq htick more) pending, hrx, ?_⟩
    rw [one]
    change _ ≤ u.tmo - 1 + _
    omega
  | expire a _ hq htick last =>
    have one : (List.filter Move.ticks [.engine a]).length = 1 := by simp [Move.ticks, htick]
    omega
  | refuse a elsewhere | accept a b elsewhere | judge a elsewhere => simp [hrx] at elsewhere

/-- The bytes of a response that begin to arrive when the window is opened, fewer ticks than it has before the ninth:
then all of them have come into the queue, and RX goes on. -/
theorem response_arrives (hpast : runMoves past s1 = .next u) (following : Following s s1 past u) (hrx : u.phase = .rx)
    (opened : u.tmo = s.cfg.readTimeoutTicks) (nothing_stale : readable (arrivals past) s = []) {early : List Move}
    {last : Byte} {r : Frame} (response : arrivals early ++ [last] = r.toList)
    (no_reset : (early.all fun m => !m.isReset) = true)
    (in_time : (early.filter Move.ticks).length < s.cfg.readTimeoutTicks) :
    ∃ v, runMoves (past ++ early ++ [.arrive last]) s1 = .next v ∧
      Following s s1 (past ++ early ++ [.arrive last]) v ∧ v.phase = .rx ∧
      readable (arrivals (past ++ early ++ [.arrive last])) s = r.toList := by
  have eight : (arrivals early).length = 8 := by
    have nine : r.toList.length = 9 := Vector.length_toList
    rw [← response, List.length_append, List.length_singleton] at nine
    omega
  have starts : Awaiting s s1 past [] u := ⟨by rwa [List.append_nil], hrx, opened.ge⟩
  obtain ⟨v, hrun, ⟨taken, f⟩, hrx', -⟩ :=
    runMoves_goes _ starts (Awaiting.goes nothing_stale hpast) ⟨no_reset, eight.le, Nat.le_sub_one_of_lt in_time⟩
  have whole_run := (runMoves_append past early s1 u hpast).trans hrun
  refine ⟨v.arrived last, runMoves_concat _ (.arrive last) s1 v _ whole_run rfl,
    f.keeps whole_run (.arrive last) f.books.pending, hrx', ?_⟩
  rw [arrivals_append, arrivals_append, List.append_assoc, readable_append, nothing_stale, List.nil_append, ← response]
  rfl

/-- Ten turns are enough, whatever HOST does between them. -/
theorem response_judged_within (hpast : runMoves past s1 = .next u) (following : Following s s1 past u)
    (hrx : u.phase = .rx) {r : Frame} {after : List Byte} (supply : readable (arrivals past) s = r.toList ++ after)
    {ms : List Move} (quiet : arrivals ms = []) (no_reset : (ms.all fun m => !m.isReset) = true)
    (enough : 10 ≤ (ms.filter Move.isTurn).length) :
    ∃ (n : Nat) (t : State), runMoves (ms.take n) u = .next t ∧ Answered s r after t := by
  have turns : 9 - u.idx.toNat < (ms.filter Move.isTurn).length := by omega
  obtain ⟨n, before, m, beginning, is_turn, count⟩ := exists_take_counted Move.isTurn turns
  have parts : ms = before ++ [m] ++ ms.drop n := by rw [← beginning, List.take_append_drop]
  rw [parts, arrivals_append, arrivals_append, List.append_eq_nil_iff, List.append_eq_nil_iff] at quiet
  rw [parts, List.all_append, List.all_append, Bool.and_eq_true, Bool.and_eq_true] at no_reset
  obtain ⟨⟨quiet, -⟩, -⟩ := quiet
  obtain ⟨⟨no_reset, -⟩, -⟩ := no_reset
  cases m with
  | engine a =>
    obtain ⟨t, hrun, answered⟩ :=
      response_judged hpast following hrx supply ⟨no_reset, by simp [quiet], count.le⟩ count a
    exact ⟨n, t, beginning ▸ hrun, answered⟩
  | _ => cases is_turn

end

/-! ## The two round trips -/

/-- The acceptance of READCO2 by a state that is ready to read. -/
theorem performMove_readyToRead {s : State} (ready : s.readyToRead) (a : Answers) :
    performMove (.engine a) s = .next { s.sample a with opValid := false }.beginExchange :=
  performMove_eq_next_iff.mpr (.read a ready)

/-- Settles O55: nine acknowledgements open the window, all nine bytes come before it closes, and the turns that follow
take the rest of them and judge the frame, which is well formed. -/
theorem sensorRoundTripReturnsValue : Obligations.SensorRoundTripReturnsValue := by
  intro s a v x4 x5 x6 x7 last sending early rest ready ⟨empty, acks, response, quiet_rest, no_reset, in_time⟩ enough
  rw [List.all_append, Bool.and_eq_true] at no_reset
  obtain ⟨no_reset_early, no_reset_rest⟩ := no_reset
  have nothing_stale : readable (arrivals sending) s = [] := by simp [readable, acks.1, empty]
  obtain ⟨u1, sent, following1, hrx1, -, opened⟩ := acknowledged_frame s a acks
  obtain ⟨u2, arrived, following2, hrx2, supply⟩ :=
    response_arrives sent following1 hrx1 opened nothing_stale response no_reset_early in_time
  obtain ⟨n, t, judged, answered⟩ := response_judged_within arrived following2 hrx2
    (supply.trans (List.append_nil _).symm) quiet_rest no_reset_rest enough
  have parts : Move.engine a :: (sending ++ early ++ .arrive last :: rest) =
      (.engine a :: (sending ++ early ++ [.arrive last])) ++ rest := by simp
  have validated := wellFormedResponseCarriesItsValue v x4 x5 x6 x7
  refine ⟨(Move.engine a :: (sending ++ early ++ [.arrive last])).length + n, t, ?_, answered.done, answered.idle, ?_,
    ?_, ?_, answered.txlog, answered.rxq⟩
  · rw [parts, List.take_length_add_append, List.cons_append,
      runMoves_cons _ _ _ _ (performMove_readyToRead ready a), runMoves_append _ _ _ _ arrived]
    exact judged
  · rw [answered.status, validated]
    rfl
  · rw [answered.reading, validated]
  · rw [answered.rdValid, validated]

/-- Turns of the ENGINE bring no byte. -/
theorem arrivals_map_engine (answers : List Answers) : arrivals (answers.map .engine) = [] := by
  induction answers with
  | nil => rfl
  | cons a answers ih => exact ih

/-- Nine turns that accept a byte are a frame accepted whole. -/
theorem acceptsFrame_of_answers {acks : List Answers} (nine : acks.length = 9)
    (accepting : (acks.all fun a => a.txAck && !a.txNak) = true) : AcceptsFrame (acks.map .engine) := by
  have all_accept : ∀ m ∈ acks.map Move.engine, m.accepts = true := by
    simpa [Move.accepts] using accepting
  have none_stops : ((acks.map Move.engine).all fun m => !m.isReset && !m.refuses) = true := by
    simp only [List.all_map, List.all_eq_true] at accepting ⊢
    intro a ha
    simpa [Move.isReset, Move.refuses] using (Bool.and_eq_true_iff.mp (accepting a ha)).2
  refine ⟨arrivals_map_engine acks, none_stops, ?_, ?_⟩
  · rw [List.filter_eq_self.mpr all_accept, List.length_map, nine]
  · have some_ack : acks.map Move.engine ≠ [] := by
      intro none
      simp [List.map_eq_nil_iff.mp none] at nine
    rw [List.getLast?_eq_some_getLast some_ack, Option.map_some, all_accept _ (List.getLast_mem some_ack)]

/-- Settles O59: nine acknowledgements open the window, and with the bytes in the queue each of the ten turns takes one
or judges them. -/
theorem nextNineBytesAreTheResponse : Obligations.NextNineBytesAreTheResponse := by
  intro s r after accept acks turns more ready no_flush queue nine accepting ten scripted
  have ready : (s.withScript more).readyToRead := ready
  obtain ⟨u, sent, following, hrx, idx_zero, -⟩ :=
    acknowledged_frame (s.withScript more) accept (acceptsFrame_of_answers nine accepting)
  have supply : readable (arrivals (acks.map .engine)) (s.withScript more) = r.toList ++ after := by
    simp [arrivals_map_engine, readable, State.withScript, no_flush, queue]
  rcases turns.eq_nil_or_concat' with rfl | ⟨before, a, rfl⟩
  · cases ten
  rw [List.length_append, List.length_singleton] at ten
  have all_turns : ∀ m ∈ before.map Move.engine, m.isTurn = true := by simp [Move.isTurn]
  have count : ((before.map Move.engine).filter Move.isTurn).length = 9 - u.idx.toNat := by
    rw [List.filter_eq_self.mpr all_turns, List.length_map, idx_zero]
    exact Nat.succ_injective ten
  have no_reset : ((before.map Move.engine).all fun m => !m.isReset) = true := by simp [Move.isReset]
  obtain ⟨t, judged, answered⟩ :=
    response_judged sent following hrx supply ⟨no_reset, by simp [arrivals_map_engine], count.le⟩ count a
  have whole_run : runMoves (.engine accept :: (acks ++ (before ++ [a])).map .engine) (s.withScript more) =
      .next t := by
    rw [runMoves_cons _ _ _ _ (performMove_readyToRead ready accept), List.map_append,
      runMoves_append _ _ _ _ sent, List.map_append]
    exact judged
  have twenty : (Move.engine accept :: (acks ++ (before ++ [a])).map Move.engine).length = 20 := by
    simp only [List.length_cons, List.length_map, List.length_append, List.length_nil]
    omega
  exact ⟨t, twenty ▸ run_of_script scripted whole_run, answered.done, answered.idle, answered.status, answered.reading,
    answered.rdValid, answered.rxbuf, answered.rxq, answered.txlog⟩

end Sys2Proof.Machine
end
